-- ==== Sys2Proof/Word.lean ====
section
/-! DEFINITION. The word types of JMIX (00_scope.md R5, R7, R10, R14). Arithmetic on them is BitVec's:
modulo 2^32 on a `Word` (R8), with logical shifts (R9). -/

namespace Sys2Proof

/-- One byte of the data address space (R14, R50). -/
abbrev Byte := BitVec 8

/-- A 32-bit value: the hash, the seeds, every intermediate value (R5), a command word (R70). -/
abbrev Word := BitVec 32

/-- A 64-bit value: a buffer address, a length (R7), the RESULT register (R29). -/
abbrev DWord := BitVec 64

end Sys2Proof
end

