-- ==== Sys2Proof/Syntax.lean ====
section
/-! DEFINITION. The commands of JMIX (spec/opcode_table.json; 30_encoding.md R72, R77) and the fields of a
command word (R71). -/

namespace Sys2Proof

/-- The four commands, one constructor per row of the opcode table. `p` is the command word's `P` bit:
true for a present buffer, false for the absent one (R73). MIX has none: its word fixes `P` = 1. -/
inductive Instr where
  /-- MIX, word 0x00000009 (40_mixer.md R110). -/
  | mix
  /-- CHECKSUM16, words 0x0000000A and 0x00000002 (41_checksums.md R125). -/
  | checksum16 (p : Bool)
  /-- CHECKSUM32, words 0x0000000B and 0x00000003 (41_checksums.md R126). -/
  | checksum32 (p : Bool)
  /-- CHECKSUM64, words 0x0000000C and 0x00000004 (41_checksums.md R127). -/
  | checksum64 (p : Bool)
  deriving DecidableEq, Repr

/-- The fields of a 32-bit command word (R71). -/
structure Command where
  /-- `RSV`, bits 31:4. -/
  rsv : BitVec 28
  /-- `P`, bit 3. -/
  p : Bool
  /-- `OP`, bits 2:0. -/
  op : BitVec 3
  deriving DecidableEq, Repr

/-- Why a command word is illegal (R76). JMIX treats the three alike: IllegalCommand (R161). -/
inductive IllegalWord where
  /-- A nonzero bit in `RSV`. -/
  | reservedBits
  /-- `OP` is 000, 101, 110 or 111. -/
  | reservedOp
  /-- MIX with `P` = 0, word 0x00000001. -/
  | mixAbsent
  deriving DecidableEq, Repr

end Sys2Proof
end

