-- ==== Sys2Proof/WellFormed.lean ====
section
/-! DEFINITION. Which command words are legal (30_encoding.md R74), on the word's fields. Every term of
`Instr` is legal by construction; the check is on the fields a host can write. -/

namespace Sys2Proof

/-- `RSV` must be 0 (R71, R76). -/
def Command.reservedZero (c : Command) : Bool := c.rsv == 0

/-- `OP` is one of the four assigned values (R72). -/
def Command.opAssigned (c : Command) : Bool := c.op == 1 || c.op == 2 || c.op == 3 || c.op == 4

/-- `OP` = MIX needs a present buffer (R73, R74). -/
def Command.mixPresent (c : Command) : Bool := c.op != 1 || c.p

/-- A legal command (R74): the three checks together. -/
def Command.wellFormed (c : Command) : Bool := c.reservedZero && c.opAssigned && c.mixPresent

/-- The fields of an instruction's word (R72, R77). -/
def Instr.command : Instr → Command
  | .mix => ⟨0, true, 1⟩
  | .checksum16 p => ⟨0, p, 2⟩
  | .checksum32 p => ⟨0, p, 3⟩
  | .checksum64 p => ⟨0, p, 4⟩

/-- An instruction is well formed when its fields are. -/
def Instr.wellFormed (i : Instr) : Bool := i.command.wellFormed

end Sys2Proof
end

