-- ==== Sys2Proof/Decode.lean ====
section
/-! DEFINITION. Decoding a command word (30_encoding.md R70 to R77), and the encoder. -/

namespace Sys2Proof

/-- The fields of a command word (R71). -/
def commandOfWord (w : Word) : Command where
  rsv := w.extractLsb' 4 28
  p := w.getLsbD 3
  op := w.extractLsb' 0 3

/-- The command word with these fields (R71): `RSV` high, then `P`, then `OP`. -/
def wordOfCommand (c : Command) : Word := c.rsv ++ (BitVec.ofBool c.p ++ c.op)

/-- The instruction with these fields, or why there is none (R76, R77). -/
def decodeCommand (c : Command) : Except IllegalWord Instr :=
  if c.rsv ≠ 0 then .error .reservedBits
  else if c.op = 1 then (if c.p then .ok .mix else .error .mixAbsent)
  else if c.op = 2 then .ok (.checksum16 c.p)
  else if c.op = 3 then .ok (.checksum32 c.p)
  else if c.op = 4 then .ok (.checksum64 c.p)
  else .error .reservedOp

/-- `decode` of R77: total on 32-bit words, each illegal word refused by name. -/
def decode (w : Word) : Except IllegalWord Instr := decodeCommand (commandOfWord w)

/-- The command word of an instruction (R72, R78). -/
def encode (i : Instr) : Word := wordOfCommand i.command

/-- `legal(w)` as R74 writes it. -/
def legal (w : Word) : Bool :=
  w.extractLsb' 4 28 == 0 &&
    ((w.extractLsb' 0 3 == 1 && w.getLsbD 3) || w.extractLsb' 0 3 == 2 || w.extractLsb' 0 3 == 3 ||
      w.extractLsb' 0 3 == 4)

/-- The instruction the decoder reads from `nbits` bits of value `w`, bit 0 least significant. A command
is one 32-bit word and nothing longer (R70); bits above `nbits` are 0. No byte order is involved (D19;
DESIGN CHOICE, log entry 12). -/
def decodeTableWord (nbits w : Nat) : Option Instr :=
  if 32 < nbits then none else (decode (BitVec.ofNat 32 (w % 2 ^ nbits))).toOption

end Sys2Proof
end

