-- ==== Sys2Proof/Config.lean ====
section
/-! DEFINITION. What the implementation or the platform fixes (00_scope.md section 3; 92_eei_decisions.md,
open parameters), and the free values. -/

namespace Sys2Proof

/-- The parameters the model takes as arguments (00_scope.md R6, section 3). They are carried in
`State.cfg`, because a step's one argument is the state (DESIGN CHOICE, log entry 1); no step writes
them (R37). -/
structure Config where
  /-- Seed constant #1, the Checksum16 seed (R6). -/
  k1 : Word
  /-- Seed constant #2, the Checksum32 seed (R6). -/
  k2 : Word
  /-- Seed constant #3, the first-pass seed of Checksum64 (R6). -/
  k3 : Word
  /-- Seed constant #4, the second-pass XOR mask of Checksum64 (R6). -/
  k4 : Word
  /-- REG_BASE: where the platform places the register space in the host's address map (R51, D31). The
  spec gives that map no width, so it is a plain number (DESIGN CHOICE, log entry 2). -/
  regBase : Nat
  deriving DecidableEq, Repr

/-- REG_BASE of the machine `State.reset` describes: OPEN in the spec (R51, D31), so a constant without a
body, a free value (DESIGN CHOICE, log entry 2). -/
opaque Config.openRegBase : Nat

/-- The byte of the n-th read made after the host broke its buffer duty: any value (93 I10; a free value,
DESIGN CHOICE, log entry 7). -/
opaque Config.disturbedByte : Nat → Byte

/-- The document's literals for K1..K4 (R6, D20), and the open REG_BASE. -/
def Config.default : Config where
  k1 := BitVec.ofNat 32 433494437
  k2 := BitVec.ofNat 32 780291637
  k3 := BitVec.ofNat 32 1073676287
  k4 := BitVec.ofNat 32 1873012681
  regBase := Config.openRegBase

end Sys2Proof
end

