-- ==== Sys2Proof/Machine/State.lean ====
section
/-! DEFINITION. The state of JMIX (10_state.md; 42_sequencer.md R140) as plain data, what an agent can do
next, the reasons a step can stop, and the state after reset (70_reset_and_hazards.md R180). -/

namespace Sys2Proof.Machine

/-- `PHASE` (R33). -/
inductive Phase where
  /-- No command is running. -/
  | idle
  /-- The next sequencer step reads byte `IDX` and applies one round. -/
  | round
  /-- The next sequencer step applies finalization. -/
  | final
  deriving DecidableEq, Repr

/-- `PASS`, the number of the current mixer pass (R34). -/
inductive Pass where
  | first
  | second
  deriving DecidableEq, Repr

/-- The host-visible registers (R23). -/
inductive Reg where
  | cmd
  | status
  | seed
  | base
  | len
  | result
  deriving DecidableEq, Repr

/-- The two error causes (60_exceptions.md R161, R162). -/
inductive Cause where
  | illegalCommand
  | commandWhileBusy
  deriving DecidableEq, Repr

/-- One step of one agent, or the reset input (42_sequencer.md R140; 70_reset_and_hazards.md R180). -/
inductive Event where
  /-- The host reads `width` bits at bus address `addr` (R146). -/
  | read (addr width : Nat)
  /-- The host writes the low `width` bits of `v` at bus address `addr` (R147; DESIGN CHOICE, log entry 12). -/
  | write (addr width : Nat) (v : DWord)
  /-- The host writes one byte of the data memory (R140, R68). -/
  | memWrite (addr : DWord) (b : Byte)
  /-- The sequencer's turn (R142 to R145). -/
  | seq
  /-- The reset input is asserted (R180; DESIGN CHOICE, log entry 14). -/
  | reset
  deriving DecidableEq, Repr

/-- The bytes of the data address space the platform's memory holds, by address. An address that is not
listed is one whose read the memory does not admit (R56): it reads as no value (DESIGN CHOICE, log entry 3). -/
abbrev Memory := List Host.Cell

/-- Why a step stops with a fault. -/
inductive Fault where
  /-- Raised by a completing FINAL step whose `LOP` is none of the four operations: R145's case gives no
  RESULT for it. Safe: no run from reset reaches such a state (DESIGN CHOICE, log entry 8). -/
  | reservedLop
  deriving DecidableEq, Repr

/-- Why a step is refused. -/
inductive Refusal where
  /-- Raised by an arm of `exec` for an instruction without a meaning; no arm does. Safe. -/
  | notModelled (mnemonic : String)
  /-- Raised by every step but reset in a state whose refused mark is set: the host made an access to
  which the model gives no meaning (R30). Safe: the run stops (DESIGN CHOICE, log entry 5). -/
  | afterRefusedAccess
  deriving DecidableEq, Repr

/-- The state of one JMIX (R140), its configuration, and the schedule of what happens next. `BUSY` is
not stored: it is `State.busy` (R25: `BUSY` = 1 if and only if `PHASE` is not IDLE; DEDUCED, log entry 11). -/
structure State where
  /-- The parameters (R6, R37, R51): no step changes them. -/
  cfg : Config
  /-- `STATUS.DONE`, bit 1 (R25). -/
  done : Bool
  /-- `STATUS.ERR_ILLEGAL`, bit 2 (R25, R161). -/
  errIllegal : Bool
  /-- `STATUS.ERR_BUSY`, bit 3 (R25, R162). -/
  errBusy : Bool
  /-- `SEED` (R26). -/
  seed : Word
  /-- `BASE` (R27). -/
  base : DWord
  /-- `LEN` (R28). -/
  len : DWord
  /-- `RESULT` (R29). -/
  result : DWord
  /-- `H`, the hash accumulator (R31). -/
  h : Word
  /-- `IDX`, the index of the next byte to read (R32). -/
  idx : DWord
  /-- `PHASE` (R33). -/
  phase : Phase
  /-- `PASS` (R34). -/
  pass : Pass
  /-- `LOP`, the latched `OP` (R35). -/
  lop : BitVec 3
  /-- `LBASE`, the latched `BASE` (R35). -/
  lbase : DWord
  /-- `LLEN`, the latched `LEN` (R35). -/
  llen : DWord
  /-- `R1`, the first-pass result of CHECKSUM64 (R36). -/
  r1 : Word
  /-- The data memory (R50, R56, R140). -/
  mem : Memory
  /-- The refused mark (R30, R140; log entry 5). -/
  refusedMark : Bool
  /-- An access was refused at some time in the run (R191; log entry 5). -/
  everRefused : Bool
  /-- `ERR_ILLEGAL` was set at some time in the run (R168, D35; log entry 6). -/
  everIllegal : Bool
  /-- `ERR_BUSY` was set at some time in the run (R168, D35; log entry 6). -/
  everBusy : Bool
  /-- The model's own: the host wrote the buffer of the present (or last) command while it ran (R68,
  I10; log entry 7). -/
  disturbed : Bool
  /-- The model's own: how many free bytes have been drawn (I10; log entry 7). -/
  draws : Nat
  /-- The model's own: what the agents do next, soonest first (R63, R140; log entry 4). -/
  events : List Event
  /-- The model's own: the values host reads returned, newest first (R146; log entry 9). -/
  hostReads : List DWord
  /-- The model's own: the addresses the sequencer read, newest first (R55; log entry 9). -/
  memReads : List DWord
  deriving DecidableEq, Repr

/-- The state right after reset on a platform with these parameters and this memory (R180): every register
at its reset value, nothing scheduled, nothing recorded. -/
def State.resetFor (cfg : Config) (mem : Memory) : State where
  cfg := cfg
  done := false
  errIllegal := false
  errBusy := false
  seed := 0
  base := 0
  len := 0
  result := 0
  h := 0
  idx := 0
  phase := .idle
  pass := .first
  lop := 0
  lbase := 0
  llen := 0
  r1 := 0
  mem := mem
  refusedMark := false
  everRefused := false
  everIllegal := false
  everBusy := false
  disturbed := false
  draws := 0
  events := []
  hostReads := []
  memReads := []

/-- The state right after reset with the default parameters and nothing in memory (DESIGN CHOICE, log
entries 1 to 4). -/
def State.reset : State := State.resetFor Config.default []

end Sys2Proof.Machine
end

