-- ==== Sys2Proof/Machine/Flags.lean ====
section
/-! DEFINITION. The STATUS fields (10_state.md R25). JMIX has no other flag (R38). -/

namespace Sys2Proof.Machine

/-- `STATUS.BUSY`: 1 if and only if `PHASE` is not IDLE (R25, R33). -/
def State.busy (s : State) : Bool := s.phase ≠ .idle

/-- The STATUS word a host reads (R146): `{28'b0, ERR_BUSY, ERR_ILLEGAL, DONE, BUSY}`. -/
def State.status (s : State) : Word :=
  (0 : BitVec 28) ++ (BitVec.ofBool s.errBusy ++ (BitVec.ofBool s.errIllegal ++
    (BitVec.ofBool s.done ++ BitVec.ofBool s.busy)))

end Sys2Proof.Machine
end

