-- ==== Sys2Proof/Machine/Operands.lean ====
section
/-! DEFINITION. The operands of a running command: the buffer byte's address (20_memory.md R53), the low
half of the length (40_mixer.md R104), the byte itself (R54, R56), and the phase a pass starts in (R141). -/

namespace Sys2Proof.Machine

/-- Reading one byte of the data memory: none where the memory does not admit the read (R56). -/
def Memory.read (m : Memory) (a : DWord) : Option Byte := m.lookup a.toNat

/-- The address of buffer byte `i`: `(base + i) mod 2^64` (R53). -/
def byteAddr (base i : DWord) : DWord := base + i

/-- `LLEN[31:0]` (R101, R104). -/
def State.l32 (s : State) : Word := s.llen.setWidth 32

/-- The address the next ROUND step reads (R143). -/
def State.readAddr (s : State) : DWord := byteAddr s.lbase s.idx

/-- The byte the next ROUND step gets, where the memory admits the read (R56). After the host broke its
duty on the buffer, the byte is any value (R68, I10). -/
def State.nextByte (s : State) : Option Byte :=
  match s.mem.read s.readAddr with
  | none => none
  | some b => some (if s.disturbed then Config.disturbedByte s.draws else b)

/-- The phase a pass over `len` bytes starts in (R141, R144): length 0 is finalization only (R106). -/
def startPhase (len : DWord) : Phase := if len = 0 then .final else .round

/-- Is `a` an address of the running command's buffer (R68)? -/
def State.inBuffer (s : State) (a : DWord) : Bool := (a - s.lbase) < s.llen

end Sys2Proof.Machine
end

