-- ==== Sys2Proof/Machine/Ops.lean ====
section
/-! DEFINITION. The named operations on the state: memory, raising a cause and clearing it, accepting a
command, the null shortcut, reset, the records of reads, and taking the next event. -/

namespace Sys2Proof.Machine

/-- Giving a listed address another byte. -/
def Memory.setByte : Memory → Nat → Byte → Memory
  | [], _, _ => []
  | c :: m, a, b => if c.1 = a then (a, b) :: m else c :: Memory.setByte m a b

/-- The host's write of one byte at an address (R140). Which reads are admitted is the platform's to say,
not the host's (R56), so an address that is not listed stays so (DESIGN CHOICE, log entry 3). -/
def Memory.write (m : Memory) (a : DWord) (b : Byte) : Memory := m.setByte a.toNat b

/-- The canonical form: addresses strictly rising and inside the data address space (R50). An address that
is not listed reads as no value (R56), so no entry can equal what it reads as (log entry 3). -/
def Memory.wf (m : Memory) : Bool :=
  decide ((m.map Prod.fst).Pairwise (· < ·) ∧ ∀ a ∈ m.map Prod.fst, a < 2 ^ 64)

/-- Raising a cause (R15, R160, R166): its sticky bit is set, and the record that it was ever set (R168).
This is all of JMIX's exception entry: nothing is saved and no control moves. -/
def State.raise (s : State) (c : Cause) : State :=
  { s with
    errIllegal := s.errIllegal || decide (c = .illegalCommand)
    errBusy := s.errBusy || decide (c = .commandWhileBusy)
    everIllegal := s.everIllegal || decide (c = .illegalCommand)
    everBusy := s.everBusy || decide (c = .commandWhileBusy) }

/-- A host write of `v` to STATUS (R25, R147, R167): a 1 in bit 2 or 3 clears that error bit; the other
bits are ignored. It stands in the place of a trap return. -/
def State.clearErrors (s : State) (v : Word) : State :=
  { s with
    errIllegal := s.errIllegal && !v.getLsbD 2
    errBusy := s.errBusy && !v.getLsbD 3 }

/-- An illegal word written while idle (R141, R161): the cause, and the write completes at once. -/
def State.rejectIllegal (s : State) : State := { s.raise .illegalCommand with done := true }

/-- The null shortcut (R120, R141): RESULT is 0 and the command is done; nothing is read or mixed. -/
def State.completeNull (s : State) : State := { s with result := 0, done := true }

/-- Accepting a mixing command with this `OP` and this seed of pass 1 (R141). -/
def State.accept (s : State) (op : BitVec 3) (seed : Word) : State :=
  { s with
    lop := op
    lbase := s.base
    llen := s.len
    h := seed
    idx := 0
    pass := .first
    phase := startPhase s.len
    done := false
    disturbed := false }

/-- A legal command written to CMD (R141): busy first (R164), then the null shortcut, then acceptance. -/
def State.issue (s : State) (op : BitVec 3) (seed : Word) (p : Bool) : State :=
  if s.busy then s.raise .commandWhileBusy
  else if p then s.accept op seed
  else s.completeNull

/-- The refused mark (R30): the model gives the access no meaning. The step that makes the access is a next
state; the mark refuses what follows (DESIGN CHOICE, log entry 5). That an access was refused is recorded for
the end of the run (R191). -/
def State.markRefused (s : State) : State := { s with refusedMark := true, everRefused := true }

/-- The value a host read returns goes to the record of host reads (R146; log entry 9). -/
def State.recordHostRead (s : State) (v : DWord) : State := { s with hostReads := v :: s.hostReads }

/-- The host writes a byte of the data memory (R140). In the running command's buffer, that breaks its
duty (R68): the bytes read from then on are any values (I10). The duty's window is taken as `BUSY` = 1 (DEDUCED, log
entries 7 and 13). -/
def State.hostMemWrite (s : State) (a : DWord) (b : Byte) : State :=
  { s with
    mem := s.mem.write a b
    disturbed := s.disturbed || (s.busy && s.inBuffer a) }

/-- The reset input (R180, R181): every register takes its reset value; the parameters, the data memory,
what is scheduled and what was recorded of the run stay, so that a reset hides neither a refused access (R191)
nor a misuse (R168) (DESIGN CHOICE, log entries 5, 6 and 14). -/
def State.assertReset (s : State) : State :=
  { State.resetFor s.cfg s.mem with
    everRefused := s.everRefused
    everIllegal := s.everIllegal
    everBusy := s.everBusy
    draws := s.draws
    events := s.events
    hostReads := s.hostReads
    memReads := s.memReads }

/-- What happens next (R140): the first event scheduled; the sequencer's turn when none is (R149: the
sequencer is scheduled fairly; DESIGN CHOICE, log entry 4). -/
def State.nextEvent (s : State) : Event :=
  match s.events with
  | [] => .seq
  | e :: _ => e

/-- The state as the next event finds it: that event is off the schedule. -/
def State.popEvent (s : State) : State := { s with events := s.events.tail }

end Sys2Proof.Machine
end

