-- ==== Sys2Proof/Machine/Checksum.lean ====
section
/-! DEFINITION. The meanings of CHECKSUM16, CHECKSUM32 and CHECKSUM64 (41_checksums.md R125 to R127): the
step of the host's `CMD` write (R141). The sequencer's steps carry an accepted command to its completion. -/

namespace Sys2Proof.Machine

/-- CHECKSUM16: `OP` = 010, the seed is `K1` (R125, R141). -/
def execChecksum16 (p : Bool) (s : State) : Host.Outcome State Fault Refusal :=
  .next (s.issue 2 s.cfg.k1 p)

/-- CHECKSUM32: `OP` = 011, the seed is `K2` (R126, R141). -/
def execChecksum32 (p : Bool) (s : State) : Host.Outcome State Fault Refusal :=
  .next (s.issue 3 s.cfg.k2 p)

/-- CHECKSUM64: `OP` = 100, the seed of pass 1 is `K3` (R127, R141). -/
def execChecksum64 (p : Bool) (s : State) : Host.Outcome State Fault Refusal :=
  .next (s.issue 4 s.cfg.k3 p)

end Sys2Proof.Machine
end

