-- ==== Sys2Proof/Machine/Mix.lean ====
section
/-! DEFINITION. The meaning of MIX (40_mixer.md R110): the step of the host's `CMD` write (R141). The
sequencer's steps (Machine/Sequencer.lean) carry the command to its completion. -/

namespace Sys2Proof.Machine

/-- MIX: `OP` = 001, the seed is `SEED` (R110, R141). -/
def execMix (s : State) : Host.Outcome State Fault Refusal := .next (s.issue 1 s.seed true)

end Sys2Proof.Machine
end

