-- ==== Sys2Proof/Machine/Dispatch.lean ====
section
/-! DEFINITION. One arm per command: what a host write of its word to `CMD` does (42_sequencer.md R141). -/

namespace Sys2Proof.Machine

def exec (i : Instr) (s : State) : Host.Outcome State Fault Refusal :=
  match i with
  | .mix => Sys2Proof.Machine.execMix s
  | .checksum16 p => Sys2Proof.Machine.execChecksum16 p s
  | .checksum32 p => Sys2Proof.Machine.execChecksum32 p s
  | .checksum64 p => Sys2Proof.Machine.execChecksum64 p s

end Sys2Proof.Machine
end

