-- ==== Sys2Proof/Machine/HostAccess.lean ====
section
/-! DEFINITION. The host's register accesses (42_sequencer.md R146, R147; 10_state.md R23, R30) and the
`CMD` write (R141), with the notation of 30_encoding.md R78. -/

namespace Sys2Proof.Machine

/-- The byte offset of a register in the register space (R23). -/
def Reg.offset : Reg → Nat
  | .cmd => 0x00
  | .status => 0x04
  | .seed => 0x08
  | .base => 0x10
  | .len => 0x18
  | .result => 0x20

/-- The width of a register in bits (R23). -/
def Reg.width : Reg → Nat
  | .cmd | .status | .seed => 32
  | .base | .len | .result => 64

/-- The registers in the order of their offsets (R23). -/
def allRegs : List Reg := [.cmd, .status, .seed, .base, .len, .result]

/-- The register an access of this width at this offset reaches; none where R30 refuses it: an offset not
listed, or a width not the register's. -/
def regAt (offset width : Nat) : Option Reg :=
  allRegs.find? fun r => r.offset == offset && r.width == width

/-- The bus address of a register (R51, R23). -/
def busAddr (c : Config) (r : Reg) : Nat := c.regBase + r.offset

/-- The register an access at this bus address reaches (R51). Below REG_BASE there is none (DEDUCED, log
entry 2). -/
def regAtBus (c : Config) (addr width : Nat) : Option Reg :=
  if addr < c.regBase then none else regAt (addr - c.regBase) width

/-- The value a host read of a register returns (R24, R146), zero-extended to 64 bits. -/
def State.readReg (s : State) : Reg → DWord
  | .cmd => 0
  | .status => s.status.setWidth 64
  | .seed => s.seed.setWidth 64
  | .base => s.base
  | .len => s.len
  | .result => s.result

/-- A host write of a word to `CMD` (R141): busy is checked first and the word is then not decoded (R162,
R164); an illegal word is IllegalCommand (R161); a legal one is the instruction it decodes to. -/
def hostWriteCmd (w : Word) (s : State) : Host.Outcome State Fault Refusal :=
  if s.busy then .next (s.raise .commandWhileBusy)
  else
    match decode w with
    | .error _ => .next s.rejectIllegal
    | .ok i => exec i s

/-- A host write of a value to a register (R147). -/
def writeReg (r : Reg) (v : DWord) (s : State) : Host.Outcome State Fault Refusal :=
  match r with
  | .cmd => hostWriteCmd (v.setWidth 32) s
  | .status => .next (s.clearErrors (v.setWidth 32))
  | .seed => .next { s with seed := v.setWidth 32 }
  | .base => .next { s with base := v }
  | .len => .next { s with len := v }
  | .result => .next s

/-- A host read at a bus address (R146); an access R30 refuses sets the refused mark. -/
def hostRead (addr width : Nat) (s : State) : Host.Outcome State Fault Refusal :=
  match regAtBus s.cfg addr width with
  | none => .next s.markRefused
  | some r => .next (s.recordHostRead (s.readReg r))

/-- A host write at a bus address (R147); an access R30 refuses sets the refused mark. -/
def hostWrite (addr width : Nat) (v : DWord) (s : State) : Host.Outcome State Fault Refusal :=
  match regAtBus s.cfg addr width with
  | none => .next s.markRefused
  | some r => writeReg r v s

/-- `WR <reg>, <value>` (R78). -/
def Event.wr (c : Config) (r : Reg) (v : DWord) : Event := .write (busAddr c r) r.width v

/-- `RD <reg>` (R78). -/
def Event.rd (c : Config) (r : Reg) : Event := .read (busAddr c r) r.width

/-- `ISSUE <command>`: the same as `WR CMD, <encoding of command>` (R78). -/
def Event.issue (c : Config) (i : Instr) : Event := Event.wr c .cmd ((encode i).setWidth 64)

end Sys2Proof.Machine
end

