-- ==== Sys2Proof/Machine/Mixer.lean ====
section
/-! DEFINITION. The mixing functions (40_mixer.md R101 to R103) and the checksum functions
(41_checksums.md R122 to R124, R128), as pure functions on words. -/

namespace Sys2Proof.Machine

/-- R101 step 1: the byte, zero-extended (R54), XOR the length, is added. -/
def roundAdd (h : Word) (b : Byte) (l32 : Word) : Word := h + (b.setWidth 32 ^^^ l32)

/-- R101: the round applied to byte `b`. -/
def mixRound (h : Word) (b : Byte) (l32 : Word) : Word :=
  let h1 := roundAdd h b l32
  let h2 := h1 + (h1 <<< 10)
  h2 ^^^ (h2 >>> 6)

/-- R102: the finalization. -/
def fin (h : Word) (l32 : Word) : Word :=
  let h4 := h + (h <<< 3)
  let h5 := h4 ^^^ ((h4 >>> 11) + l32)
  h5 + (h5 <<< 15)

/-- The byte loop of R103: the rounds over the bytes in sequence order. -/
def rounds (l32 : Word) (h : Word) (d : List Byte) : Word := d.foldl (fun h b => mixRound h b l32) h

/-- R103: the Mixer on a seed and a byte sequence; its length is `d.length`, of which the low 32 bits
enter the arithmetic (R104). -/
def mix (s : Word) (d : List Byte) : Word :=
  fin (rounds (BitVec.ofNat 32 d.length) s d) (BitVec.ofNat 32 d.length)

/-- R122: the high half XOR the low half. -/
def fold16 (r : Word) : BitVec 16 := r.extractLsb' 16 16 ^^^ r.extractLsb' 0 16

/-- R122: Checksum16 of an optional buffer, a signed 16-bit integer. -/
def checksum16 (c : Config) : Option (List Byte) → Int
  | none => 0
  | some d => (fold16 (mix c.k1 d)).toInt

/-- R123: Checksum32 of an optional buffer, a signed 32-bit integer. -/
def checksum32 (c : Config) : Option (List Byte) → Int
  | none => 0
  | some d => (mix c.k2 d).toInt

/-- R124: the first-pass value `r1`. -/
def checksum64Pass1 (c : Config) (d : List Byte) : Word := mix c.k3 d

/-- R124: the second-pass value `r2`, seeded with `r1 XOR K4`. -/
def checksum64Pass2 (c : Config) (d : List Byte) : Word := mix (checksum64Pass1 c d ^^^ c.k4) d

/-- R124: Checksum64 of an optional buffer, a signed 64-bit integer. -/
def checksum64 (c : Config) : Option (List Byte) → Int
  | none => 0
  | some d => (checksum64Pass1 c d ++ checksum64Pass2 c d : BitVec 64).toInt

/-- R145, R128: the RESULT of a command that completes with `h`, by its latched `LOP`; none for an
operation R145 does not name. -/
def resultOf (lop : BitVec 3) (r1 h : Word) : Option DWord :=
  if lop = 1 then some (h.setWidth 64)
  else if lop = 2 then some ((fold16 h).signExtend 64)
  else if lop = 3 then some (h.signExtend 64)
  else if lop = 4 then some (r1 ++ h : BitVec 64)
  else none

end Sys2Proof.Machine
end

