-- ==== Sys2Proof/Machine/Sequencer.lean ====
section
/-! DEFINITION. The sequencer's steps (42_sequencer.md R142 to R145). -/

namespace Sys2Proof.Machine

/-- A ROUND step that gets byte `b` (R143). -/
def State.roundWith (s : State) (b : Byte) : State :=
  { s with
    h := mixRound s.h b s.l32
    idx := s.idx + 1
    phase := if s.idx + 1 = s.llen then .final else s.phase
    draws := if s.disturbed then s.draws + 1 else s.draws
    memReads := s.readAddr :: s.memReads }

/-- The FINAL step at the end of pass 1 of CHECKSUM64 (R144). -/
def State.finalPass1 (s : State) : State :=
  { s with
    r1 := fin s.h s.l32
    h := fin s.h s.l32 ^^^ s.cfg.k4
    idx := 0
    pass := .second
    phase := startPhase s.llen }

/-- The state a completing FINAL step leaves, with this RESULT (R145). -/
def State.completeWith (s : State) (result : DWord) : State :=
  { s with
    h := fin s.h s.l32
    result := result
    phase := .idle
    pass := .first
    done := true }

/-- The ROUND step (R143). Where the memory does not admit the read there is no step (R56): the turn
passes and nothing changes (log entry 4). -/
def seqRound (s : State) : Host.Outcome State Fault Refusal :=
  match s.nextByte with
  | none => .next s
  | some b => .next (s.roundWith b)

/-- The FINAL step that completes a command (R145). A `LOP` that R145 does not name faults (DESIGN CHOICE,
log entry 8). -/
def seqFinalComplete (s : State) : Host.Outcome State Fault Refusal :=
  match resultOf s.lop s.r1 (fin s.h s.l32) with
  | none => .fault .reservedLop
  | some r => .next (s.completeWith r)

/-- The FINAL step (R144, R145). -/
def seqFinal (s : State) : Host.Outcome State Fault Refusal :=
  if s.lop = 4 ∧ s.pass = .first then .next s.finalPass1 else seqFinalComplete s

/-- The sequencer's turn. In IDLE it has no step (R142): the turn passes (DESIGN CHOICE, log
entry 4). -/
def seqStep (s : State) : Host.Outcome State Fault Refusal :=
  match s.phase with
  | .idle => .next s
  | .round => seqRound s
  | .final => seqFinal s

end Sys2Proof.Machine
end

