-- ==== Sys2Proof/Machine/Schedule.lean ====
section
/-! DEFINITION. One event of the schedule (42_sequencer.md R140). -/

namespace Sys2Proof.Machine

/-- What an event does. -/
def stepOf (e : Event) (s : State) : Host.Outcome State Fault Refusal :=
  match e with
  | .read addr width => hostRead addr width s
  | .write addr width v => hostWrite addr width v s
  | .memWrite a b => .next (s.hostMemWrite a b)
  | .seq => seqStep s
  | .reset => .next s.assertReset

/-- One event, in a state whose refused mark is clear; where the mark is set, only reset has a meaning
(R30, R180; DESIGN CHOICE, log entry 5). -/
def stepEvent (e : Event) (s : State) : Host.Outcome State Fault Refusal :=
  if s.refusedMark ∧ e ≠ .reset then .refused .afterRefusedAccess else stepOf e s

end Sys2Proof.Machine
end

