-- ==== Sys2Proof/Machine/Step.lean ====
section
/-! DEFINITION. The step of the machine (42_sequencer.md R140), and the host's way to hand it a command. -/

namespace Sys2Proof.Machine

/-- One step: the next event of the schedule happens. -/
def step (s : State) : Host.Outcome State Fault Refusal := stepEvent s.nextEvent s.popEvent

/-- `s` with a host write of this command word to `CMD` as its next event (R52, R70: a command is not
fetched, it is written). The register space is placed at bus address 0, so that the access can be worked
out on numerals whatever the open REG_BASE is (DESIGN CHOICE, log entry 4). -/
def State.withFetchWord (s : State) (nbits w : Nat) : State :=
  { s with
    cfg := { s.cfg with regBase := 0 }
    events := .write 0 (max nbits 32) (BitVec.ofNat 64 (w % 2 ^ nbits)) :: s.events }

end Sys2Proof.Machine
end

