-- ==== Sys2Proof/Safety.lean ====
section
/-! DEFINITION. The terms claims are stated in: the invariant, the end of a run (70_reset_and_hazards.md
R191), a buffer in memory, what a command computes, and which events are plain register accesses. -/

namespace Sys2Proof.Machine

/-- What holds after reset and after every step. -/
structure State.Inv (s : State) : Prop where
  /-- The memory has its canonical form. -/
  memWf : s.mem.wf = true
  /-- `BUSY` and `DONE` are never both 1 (R25). -/
  notBusyAndDone : s.done = true → s.phase = .idle
  /-- In ROUND there is a byte left to read (R143). -/
  roundIdx : s.phase = .round → s.idx < s.llen
  /-- In FINAL every byte of the pass has been read (R141, R143, R144). -/
  finalIdx : s.phase = .final → s.idx = s.llen
  /-- `LOP` is the reset value or one of the four operations (R35, R72). -/
  lopAssigned : s.lop = 0 ∨ s.lop = 1 ∨ s.lop = 2 ∨ s.lop = 3 ∨ s.lop = 4
  /-- A running command has an operation (R141). -/
  runningOp : s.phase ≠ .idle → s.lop ≠ 0
  /-- `PASS` is 2 only during the second pass of CHECKSUM64 (R34). -/
  secondPass : s.pass = .second → s.lop = 4 ∧ s.phase ≠ .idle
  /-- Idle without `DONE` means that no command has completed since reset, and then RESULT still reads 0
  (R25, R185). -/
  beforeFirst : s.phase = .idle → s.done = false → s.result = 0 ∧ s.lop = 0 ∧ s.r1 = 0
  /-- The ever-set records cover the error bits (R168). -/
  everIllegal : s.errIllegal = true → s.everIllegal = true
  everBusy : s.errBusy = true → s.everBusy = true
  /-- The record of refused accesses covers the refused mark (R191). -/
  everRefused : s.refusedMark = true → s.everRefused = true

/-- The host program has run its last operation, no command is in flight and no access was refused, neither
now nor before a reset (R191). R191 does not speak of a reset still on the schedule: the model counts it, like a pending access or memory write
of the host, as a run not ended (DESIGN CHOICE, log entry 20). -/
def State.runEnded (s : State) : Prop :=
  (∀ e ∈ s.events, e = .seq) ∧ s.phase = .idle ∧ s.refusedMark = false ∧ s.everRefused = false

/-- The run ended clean (R191). -/
def State.runClean (s : State) : Prop :=
  s.runEnded ∧ s.errIllegal = false ∧ s.errBusy = false

/-- No error bit was ever set in the run, cleared or not (R168, D35). -/
def State.neverMisused (s : State) : Prop := s.everIllegal = false ∧ s.everBusy = false

/-- The machine is not refused, and its next event is `e`. -/
def State.facing (s : State) (e : Event) : Prop := s.refusedMark = false ∧ s.nextEvent = e

/-- No command is running, the machine is not refused, and the host does nothing more. -/
def State.ready (s : State) : Prop := s.busy = false ∧ s.refusedMark = false ∧ s.events = []

/-- The memory admits reads of, and holds, these bytes from `base` on, wrapping at the top (R53). -/
def holdsBuffer (m : Memory) (base : DWord) (d : List Byte) : Prop :=
  ∀ (i : Nat) (hi : i < d.length), m.read (byteAddr base (BitVec.ofNat 64 i)) = some d[i]

/-- The addresses one pass over `n` bytes reads, newest first (R55). -/
def passReads (base : DWord) (n : Nat) : List DWord :=
  ((List.range n).map fun i => byteAddr base (BitVec.ofNat 64 i)).reverse

/-- How many passes a mixing command makes (R55). -/
def passesOf : Instr → Nat
  | .mix | .checksum16 _ | .checksum32 _ => 1
  | .checksum64 _ => 2

/-- Does the command take a present buffer (R73)? MIX always does. -/
def presentOf : Instr → Bool
  | .mix => true
  | .checksum16 p | .checksum32 p | .checksum64 p => p

/-- RESULT of a command over a present buffer, with this `SEED` (R110, R125 to R128). -/
def resultFor (c : Config) (seed : Word) (d : List Byte) : Instr → DWord
  | .mix => (mix seed d).setWidth 64
  | .checksum16 _ => (fold16 (mix c.k1 d)).signExtend 64
  | .checksum32 _ => (mix c.k2 d).signExtend 64
  | .checksum64 _ => checksum64Pass1 c d ++ checksum64Pass2 c d

/-- A register access that R30 does not refuse. -/
def Event.isRegAccess (c : Config) : Event → Prop
  | .read a w => (regAtBus c a w).isSome = true
  | .write a w _ => (regAtBus c a w).isSome = true
  | .memWrite _ _ | .seq | .reset => False

/-- `a` is the address of no byte of the buffer of `len` bytes at `base` (R53, R68). -/
def outsideBuffer (base len a : DWord) : Prop := ∀ i : DWord, i < len → a ≠ byteAddr base i

/-- What may happen while a command over this buffer runs and the host keeps its duty on it (R68): a turn of
the sequencer, a register access, a write to memory outside the buffer. -/
def Event.keepsDuty (c : Config) (base len : DWord) (e : Event) : Prop :=
  e = .seq ∨ e.isRegAccess c ∨ ∃ a b, e = .memWrite a b ∧ outsideBuffer base len a

/-- Events that keep the duty, with one sequencer turn fewer than the command takes (R149): the next turn
completes it. -/
def State.scheduleFor (s : State) (i : Instr) (es : List Event) : Prop :=
  (∀ e ∈ es, e.keepsDuty s.cfg s.base s.len) ∧ es.count .seq + 1 = passesOf i * (s.len.toNat + 1)

/-- What an event writes to memory: only a host memory write does (R50). -/
def Event.writeMem (m : Memory) : Event → Memory
  | .memWrite a b => m.write a b
  | .read _ _ | .write _ _ _ | .seq | .reset => m

/-- The memory after the host's writes among these events. -/
def hostWrites (m : Memory) (es : List Event) : Memory := es.foldl Event.writeMem m

/-- `k` steps of the machine, stopping at a fault or a refusal. -/
def runSteps : Nat → State → Host.Outcome State Fault Refusal
  | 0, s => .next s
  | k + 1, s =>
    match step s with
    | .next t => runSteps k t
    | .fault r => .fault r
    | .refused r => .refused r

end Sys2Proof.Machine
end

