-- ==== Sys2Proof/Certificates/Slice0/Obligations.lean ====
section
/-! DEFINITION. The statements for the provers. A state equation `t = { s.popEvent with … }` is also the
frame: every field it does not name (every register, the parameters, all of memory) is unchanged, but that
the event itself leaves the schedule (`popEvent`). -/

open Sys2Proof Sys2Proof.Machine

/-! ## Encoding -/

/-- 30_encoding.md section 4 and R78: the seven words of the table, written out bit by bit, decode to the
instructions they stand for, and two neighbours of MIX do not decode. -/
def Obligations.TableWordsDecode : Prop :=
  decode 0b00000000000000000000000000001001#32 = .ok .mix ∧
  decode 0b00000000000000000000000000001010#32 = .ok (.checksum16 true) ∧
  decode 0b00000000000000000000000000000010#32 = .ok (.checksum16 false) ∧
  decode 0b00000000000000000000000000001011#32 = .ok (.checksum32 true) ∧
  decode 0b00000000000000000000000000000011#32 = .ok (.checksum32 false) ∧
  decode 0b00000000000000000000000000001100#32 = .ok (.checksum64 true) ∧
  decode 0b00000000000000000000000000000100#32 = .ok (.checksum64 false) ∧
  decode 0b00000000000000000000000000000001#32 = .error .mixAbsent ∧
  decode 0b00000000000000000000000000011001#32 = .error .reservedBits

/-- R74: `legal` is the formula of the rule, exactly seven words are legal, those are the words that
decode, and an illegal word written while `BUSY` = 0 raises IllegalCommand. -/
def Obligations.LegalWordsAreExactlySeven : Prop :=
  ∀ w : Word,
    (legal w = true ↔
      w.extractLsb' 4 28 = 0 ∧
        ((w.extractLsb' 0 3 = 1 ∧ w.getLsbD 3 = true) ∨ w.extractLsb' 0 3 = 2 ∨
          w.extractLsb' 0 3 = 3 ∨ w.extractLsb' 0 3 = 4)) ∧
    (legal w = true ↔
      w = 0x00000009 ∨ w = 0x00000002 ∨ w = 0x0000000A ∨ w = 0x00000003 ∨ w = 0x0000000B ∨
        w = 0x00000004 ∨ w = 0x0000000C) ∧
    (legal w = true ↔ ∃ i, decode w = .ok i) ∧
    ∀ s : State, legal w = false → s.busy = false → hostWriteCmd w s = .next s.rejectIllegal ∧
      s.rejectIllegal.errIllegal = true

/-- R77: decoding is total and exact. A word decodes to an instruction exactly when it is that
instruction's encoding, so no bit of a word is dropped and no two words share a meaning. -/
def Obligations.DecodeInvertsEncode : Prop :=
  ∀ (w : Word) (i : Instr), decode w = .ok i ↔ encode i = w

/-- 30_encoding.md section 4: each row's match and mask say exactly which words decode to it, and a word
that matches no row does not decode. -/
def Obligations.DecodeFollowsMatchAndMask : Prop :=
  ∀ w : Word,
    (decode w = .ok .mix ↔ w &&& 0xFFFFFFFF = 0x00000009) ∧
    ((∃ p, decode w = .ok (.checksum16 p)) ↔ w &&& 0xFFFFFFF7 = 0x00000002) ∧
    ((∃ p, decode w = .ok (.checksum32 p)) ↔ w &&& 0xFFFFFFF7 = 0x00000003) ∧
    ((∃ p, decode w = .ok (.checksum64 p)) ↔ w &&& 0xFFFFFFF7 = 0x00000004) ∧
    (∀ p, decode w = .ok (.checksum16 p) ∨ decode w = .ok (.checksum32 p) ∨
      decode w = .ok (.checksum64 p) → p = w.getLsbD 3)

/-! ## The `CMD` write -/

/-- A step at a `CMD` write whose word decodes is the instruction's own meaning, on the state with that
event off the schedule; the schedule is all the step itself adds. -/
def Obligations.StepRunsTheDecodedCommand : Prop :=
  ∀ (s : State) (v : DWord) (i : Instr),
    s.facing (Event.wr s.cfg .cmd v) → decode (v.setWidth 32) = .ok i →
      step s = exec i s.popEvent ∧ s.popEvent = { s with events := s.events.tail }

/-- R141: all of HostWriteCMD, for every word: busy first, then the illegal word, then the null shortcut,
then acceptance. (What becomes of the model's own fields `everBusy`, `everIllegal` and `disturbed`, log
entries 6 and 7, is left open here: it is no clause of R141.) -/
def Obligations.CmdWriteFollowsAcceptanceRule : Prop :=
  ∀ (s : State) (v : DWord), s.facing (Event.wr s.cfg .cmd v) →
    ∃ recBusy recIllegal dist : Bool, step s = .next (
      if s.phase ≠ .idle then { s.popEvent with errBusy := true, everBusy := recBusy }
      else if legal (v.setWidth 32) = false then
        { s.popEvent with errIllegal := true, everIllegal := recIllegal, done := true }
      else if v.getLsbD 3 = false then { s.popEvent with result := 0, done := true }
      else
        { s.popEvent with
          lop := v.extractLsb' 0 3
          lbase := s.base
          llen := s.len
          h := if v.extractLsb' 0 3 = 1 then s.seed
            else if v.extractLsb' 0 3 = 2 then s.cfg.k1
            else if v.extractLsb' 0 3 = 3 then s.cfg.k2
            else s.cfg.k3
          idx := 0
          pass := .first
          phase := if s.len = 0 then .final else .round
          done := false
          disturbed := dist })

/-- R161: cause 1. Any reserved `OP`, nonzero bit in 31:4, or MIX with `P` = 0 written while `BUSY` = 0
sets `ERR_ILLEGAL` and `DONE`, and nothing else changes. (The model's record `everIllegal`, log entry 6, is
left open here.) -/
def Obligations.IllegalCommandEffect : Prop :=
  ∀ (s : State) (v : DWord), s.facing (Event.wr s.cfg .cmd v) → s.busy = false →
    (v.extractLsb' 0 3 = 0 ∨ v.extractLsb' 0 3 = 5 ∨ v.extractLsb' 0 3 = 6 ∨ v.extractLsb' 0 3 = 7 ∨
      v.extractLsb' 4 28 ≠ 0 ∨ v.setWidth 32 = (1 : Word) ↔ legal (v.setWidth 32) = false) ∧
    (legal (v.setWidth 32) = false →
      ∃ recIllegal, step s = .next
        { s.popEvent with errIllegal := true, everIllegal := recIllegal, done := true })

/-- R162 and R164: any word written to `CMD` while `BUSY` = 1, legal or not, sets `ERR_BUSY` and nothing
else; the running command and `DONE` are as before. (The model's record `everBusy`, log entry 6, is left
open here.) -/
def Obligations.CommandWhileBusyEffect : Prop :=
  ∀ (s : State) (v : DWord), s.facing (Event.wr s.cfg .cmd v) → s.busy = true →
    ∃ recBusy, step s = .next { s.popEvent with errBusy := true, everBusy := recBusy }

/-- Each of the four commands, with either `P`, is turned away while `BUSY` = 1 (R110, R125 to R127:
"It raises CommandWhileBusy if written while BUSY = 1"). (`everBusy`: the model's record, log entry 6.) -/
def Obligations.EveryCommandIsTurnedAwayWhileBusy : Prop :=
  ∀ (i : Instr) (s : State), s.busy = true →
    exec i s = .next { s with errBusy := true, everBusy := true }

/-- R110, R141: MIX while `BUSY` = 0 is accepted with the seed in `SEED`. (`disturbed`: the model's own, log
entry 7.) -/
def Obligations.MixIsAccepted : Prop :=
  ∀ s : State, s.busy = false →
    exec .mix s = .next
      { s with
        lop := 1, lbase := s.base, llen := s.len, h := s.seed, idx := 0, pass := .first
        phase := if s.len = 0 then .final else .round
        done := false, disturbed := false }

/-- R125 to R127, R141: a CHECKSUM command with `P` = 1 while `BUSY` = 0 is accepted with its own seed.
(`disturbed`: the model's own, log entry 7.) -/
def Obligations.PresentChecksumIsAccepted : Prop :=
  ∀ s : State, s.busy = false →
    exec (.checksum16 true) s = .next
      { s with
        lop := 2, lbase := s.base, llen := s.len, h := s.cfg.k1, idx := 0, pass := .first
        phase := if s.len = 0 then .final else .round
        done := false, disturbed := false } ∧
    exec (.checksum32 true) s = .next
      { s with
        lop := 3, lbase := s.base, llen := s.len, h := s.cfg.k2, idx := 0, pass := .first
        phase := if s.len = 0 then .final else .round
        done := false, disturbed := false } ∧
    exec (.checksum64 true) s = .next
      { s with
        lop := 4, lbase := s.base, llen := s.len, h := s.cfg.k3, idx := 0, pass := .first
        phase := if s.len = 0 then .final else .round
        done := false, disturbed := false }

/-- R120: a CHECKSUM command with `P` = 0 while `BUSY` = 0 sets RESULT to 0 for all three widths and is
done in that step, reading no memory, neither `BASE` nor `LEN`, and running no round. -/
def Obligations.NullChecksumCompletesAtOnce : Prop :=
  ∀ s : State, s.busy = false →
    exec (.checksum16 false) s = .next { s with result := 0, done := true } ∧
    exec (.checksum32 false) s = .next { s with result := 0, done := true } ∧
    exec (.checksum64 false) s = .next { s with result := 0, done := true } ∧
    ∀ c : Config, checksum16 c none = 0 ∧ checksum32 c none = 0 ∧ checksum64 c none = 0

/-- The frame of every command's own step, all of it said from the outside: parameters, operand registers,
R1, every byte of memory, the schedule and the records are unchanged; RESULT changes only by the null
shortcut; the error bits change only by CommandWhileBusy; and the internal registers only by acceptance. -/
def Obligations.CommandFrame : Prop :=
  ∀ (i : Instr) (s t : State), exec i s = .next t →
    (t.cfg = s.cfg ∧ t.seed = s.seed ∧ t.base = s.base ∧ t.len = s.len ∧ t.r1 = s.r1) ∧
    (∀ a, t.mem.read a = s.mem.read a) ∧
    (t.events = s.events ∧ t.hostReads = s.hostReads ∧ t.memReads = s.memReads ∧ t.draws = s.draws) ∧
    (t.refusedMark = s.refusedMark ∧ t.everRefused = s.everRefused ∧ t.errIllegal = s.errIllegal ∧
      t.everIllegal = s.everIllegal) ∧
    (s.busy = true ∨ presentOf i = true → t.result = s.result) ∧
    (s.busy = false → t.errBusy = s.errBusy ∧ t.everBusy = s.everBusy) ∧
    (s.busy = true → t.done = s.done) ∧
    (s.busy = true ∨ presentOf i = false →
      t.h = s.h ∧ t.idx = s.idx ∧ t.phase = s.phase ∧ t.pass = s.pass ∧ t.lop = s.lop ∧
        t.lbase = s.lbase ∧ t.llen = s.llen ∧ t.disturbed = s.disturbed)

/-! ## The sequencer -/

/-- R142: in IDLE the sequencer has no step, so its turn changes nothing; IDLE is left only by a host `CMD`
write, and `BUSY` = 0 tells the host so. -/
def Obligations.IdleSequencerHasNoStep : Prop :=
  ∀ s : State, s.phase = .idle →
    (s.facing .seq → step s = .next s.popEvent) ∧ s.busy = false ∧
    ∀ t, step s = .next t → t.phase = .idle ∨ ∃ v : DWord, s.nextEvent = Event.wr s.cfg .cmd v

/-- R143: the ROUND step, with the arithmetic of R101 written out; where the memory does not admit the
read there is no step. (`disturbed` = false: the host kept its duty on the buffer, R68; the model's own
record of reads, log entry 9, is left open here.) -/
def Obligations.RoundStep : Prop :=
  ∀ s : State, s.facing .seq → s.phase = .round → s.disturbed = false →
    (∀ b, s.mem.read (s.lbase + s.idx) = some b →
      ∃ reads, step s = .next
        { s.popEvent with
          h :=
            let h1 := s.h + (b.setWidth 32 ^^^ s.llen.setWidth 32)
            let h2 := h1 + h1 <<< 10
            h2 ^^^ h2 >>> 6
          idx := s.idx + 1
          phase := if s.idx + 1 = s.llen then .final else .round
          memReads := reads }) ∧
    (s.mem.read (s.lbase + s.idx) = none → step s = .next s.popEvent) ∧
    (s.idx < s.llen → (s.idx + 1).toNat = s.idx.toNat + 1)

/-- Model's choice (93 I10, log entry 7): after the host broke its duty on the buffer, the byte a ROUND
step gets is a free value, whatever it is, and everything else the step does is as R143 says. -/
def Obligations.DisturbedRoundStepUsesFreeByte : Prop :=
  ∀ (s : State) (b : Byte), s.facing .seq → s.phase = .round → s.disturbed = true →
    s.mem.read (s.lbase + s.idx) = some b →
      step s = .next
        { s.popEvent with
          h := mixRound s.h (Config.disturbedByte s.draws) (s.llen.setWidth 32)
          idx := s.idx + 1
          phase := if s.idx + 1 = s.llen then .final else .round
          draws := s.draws + 1
          memReads := (s.lbase + s.idx) :: s.memReads }

/-- R144: the FINAL step at the end of pass 1 of CHECKSUM64. -/
def Obligations.EndOfPassOneStep : Prop :=
  ∀ s : State, s.facing .seq → s.phase = .final → s.lop = 4 → s.pass = .first →
    step s = .next
      { s.popEvent with
        r1 := fin s.h (s.llen.setWidth 32)
        h := fin s.h (s.llen.setWidth 32) ^^^ s.cfg.k4
        idx := 0
        pass := .second
        phase := if s.llen = 0 then .final else .round }

/-- R145: the FINAL step that completes a command, for each of the four operations. -/
def Obligations.CompletionStep : Prop :=
  ∀ s : State, s.facing .seq → s.phase = .final → ¬(s.lop = 4 ∧ s.pass = .first) →
    s.lop = 1 ∨ s.lop = 2 ∨ s.lop = 3 ∨ s.lop = 4 →
      step s = .next
        { s.popEvent with
          h := fin s.h (s.llen.setWidth 32)
          result :=
            let h := fin s.h (s.llen.setWidth 32)
            if s.lop = 1 then h.setWidth 64
            else if s.lop = 2 then (h.extractLsb' 16 16 ^^^ h.extractLsb' 0 16).signExtend 64
            else if s.lop = 3 then h.signExtend 64
            else (s.r1 ++ h : BitVec 64)
          phase := .idle
          pass := .first
          done := true }

/-- Model's choice (log entry 8): a completing FINAL step with a `LOP` that R145 does not name stops with
a fault of its own. No state that meets the invariant is such a state. -/
def Obligations.UnassignedOperationFaults : Prop :=
  ∀ s : State, s.facing .seq → s.phase = .final →
    s.lop = 0 ∨ s.lop = 5 ∨ s.lop = 6 ∨ s.lop = 7 → step s = .fault .reservedLop

/-- R163: a sequencer turn never fails in a state that meets the invariant, and raises no cause; where the
memory does not admit the read it is stuck, with nothing changed. -/
def Obligations.SequencerRaisesNothing : Prop :=
  ∀ s : State, s.Inv → s.facing .seq →
    ∃ t, step s = .next t ∧ t.errIllegal = s.errIllegal ∧ t.errBusy = s.errBusy ∧
      t.everIllegal = s.everIllegal ∧ t.everBusy = s.everBusy ∧
      (s.phase = .round → s.mem.read (s.lbase + s.idx) = none → t = s.popEvent)

/-- R56: a sequencer whose read is not admitted stays where it is, busy, through any number of steps of any
schedule without a reset; its own turn changes nothing and sets no error bit; and reset releases it. (That a
host memory write admits no read is the model's reading of R56, log entry 3.) -/
def Obligations.StuckSequencerStaysStuck : Prop :=
  ∀ (k : Nat) (s : State), s.phase = .round → s.mem.read (s.lbase + s.idx) = none →
    (∀ t, (∀ e ∈ s.events, e ≠ .reset) → runSteps k s = .next t →
      t.busy = true ∧ t.phase = .round ∧ t.mem.read (t.lbase + t.idx) = none ∧ t.h = s.h ∧
        t.idx = s.idx ∧ t.result = s.result ∧ t.memReads = s.memReads ∧ t.done = s.done ∧
        (t.errIllegal = true → s.errIllegal = true)) ∧
    (s.events = [] → s.refusedMark = false → runSteps k s = .next s) ∧
    (s.facing .seq → step s = .next s.popEvent) ∧
    (s.nextEvent = .reset → ∃ t, step s = .next t ∧ t.busy = false)

/-! ## Register accesses -/

/-- R30, R23, R51: whatever REG_BASE is, an access has a meaning exactly when its address and width are
those of a listed register; every other access sets the refused mark, and the record of it that R191 needs,
and changes nothing else. (That an
access below REG_BASE is one of these is DEDUCED, log entry 2; that it is a next state, log entry 5.) -/
def Obligations.UnlistedAccessIsRefused : Prop :=
  ∀ (c : Config) (addr width : Nat),
    (regAtBus c addr width ≠ none ↔
      (addr = c.regBase + 0x00 ∧ width = 32) ∨ (addr = c.regBase + 0x04 ∧ width = 32) ∨
      (addr = c.regBase + 0x08 ∧ width = 32) ∨ (addr = c.regBase + 0x10 ∧ width = 64) ∨
      (addr = c.regBase + 0x18 ∧ width = 64) ∨ (addr = c.regBase + 0x20 ∧ width = 64)) ∧
    (regAtBus c addr width = none →
      ∀ (s : State) (v : DWord), s.cfg = c →
        s.facing (.read addr width) ∨ s.facing (.write addr width v) →
          step s = .next { s.popEvent with refusedMark := true, everRefused := true })

/-- R30, R180: a state whose refused mark is set is refused as a whole. Model's choice (log entry 5): the
reset input still has its effect there, and clears the mark. -/
def Obligations.RefusedStateHasOnlyReset : Prop :=
  ∀ s : State, s.refusedMark = true →
    (s.nextEvent ≠ .reset → step s = .refused .afterRefusedAccess) ∧
    (s.nextEvent = .reset → ∃ t, step s = .next t ∧ t.refusedMark = false ∧ t.phase = .idle)

/-- R146: what a host read of each register returns, and that a read changes no state (the record of
what the host read is the model's own). An access R30 refuses sets the refused mark instead. -/
def Obligations.HostReadReturnsRegister : Prop :=
  ∀ s : State,
    (s.facing (Event.rd s.cfg .cmd) → step s = .next { s.popEvent with hostReads := 0 :: s.hostReads }) ∧
    (s.facing (Event.rd s.cfg .status) →
      ∃ x : DWord, step s = .next { s.popEvent with hostReads := x :: s.hostReads } ∧
        x.getLsbD 0 = s.busy ∧ x.getLsbD 1 = s.done ∧ x.getLsbD 2 = s.errIllegal ∧
        x.getLsbD 3 = s.errBusy ∧ ∀ n, 4 ≤ n → x.getLsbD n = false) ∧
    (s.facing (Event.rd s.cfg .seed) →
      step s = .next { s.popEvent with hostReads := s.seed.setWidth 64 :: s.hostReads }) ∧
    (s.facing (Event.rd s.cfg .base) →
      step s = .next { s.popEvent with hostReads := s.base :: s.hostReads }) ∧
    (s.facing (Event.rd s.cfg .len) →
      step s = .next { s.popEvent with hostReads := s.len :: s.hostReads }) ∧
    (s.facing (Event.rd s.cfg .result) →
      step s = .next { s.popEvent with hostReads := s.result :: s.hostReads }) ∧
    (∀ addr width, s.facing (.read addr width) → regAtBus s.cfg addr width = none →
      ∃ recRefused, step s = .next { s.popEvent with refusedMark := true, everRefused := recRefused })

/-- R147: what a host write to each register does, busy or not. -/
def Obligations.HostWriteEffects : Prop :=
  ∀ (s : State) (v : DWord),
    (s.facing (Event.wr s.cfg .cmd v) → step s = hostWriteCmd (v.setWidth 32) s.popEvent) ∧
    (s.facing (Event.wr s.cfg .status v) →
      step s = .next
        { s.popEvent with
          errIllegal := s.errIllegal && !v.getLsbD 2
          errBusy := s.errBusy && !v.getLsbD 3 }) ∧
    (s.facing (Event.wr s.cfg .seed v) → step s = .next { s.popEvent with seed := v.setWidth 32 }) ∧
    (s.facing (Event.wr s.cfg .base v) → step s = .next { s.popEvent with base := v }) ∧
    (s.facing (Event.wr s.cfg .len v) → step s = .next { s.popEvent with len := v }) ∧
    (s.facing (Event.wr s.cfg .result v) → step s = .next s.popEvent) ∧
    (∀ addr width, s.facing (.write addr width v) → regAtBus s.cfg addr width = none →
      ∃ recRefused, step s = .next { s.popEvent with refusedMark := true, everRefused := recRefused })

/-- Model's convention for a host memory write (R140, R68, R56; log entries 3 and 7): it changes the one
byte, where reads of it are admitted, and no register; in the running command's buffer it breaks the
host's duty. -/
def Obligations.HostMemoryWriteFrame : Prop :=
  ∀ (s : State) (a : DWord) (b : Byte), s.facing (.memWrite a b) →
    ∃ t, step s = .next t ∧
      (∀ x, t.mem.read x = if x = a then (s.mem.read a).map (fun _ => b) else s.mem.read x) ∧
      t.disturbed = (s.disturbed || (s.busy && decide ((a - s.lbase).toNat < s.llen.toNat))) ∧
      t = { s.popEvent with mem := t.mem, disturbed := t.disturbed }

/-- R160: `raise` sets the cause's sticky bit and records nothing else of it (but the model's ever-set record
that R168 asks for, log entry 6, left open here), after any step but reset a set bit is still set unless the host wrote 1 to
it, which clears it, and reset clears both. -/
def Obligations.ErrorBitsAreSticky : Prop :=
  (∀ s : State,
    (∃ recIllegal, s.raise .illegalCommand = { s with errIllegal := true, everIllegal := recIllegal }) ∧
    ∃ recBusy, s.raise .commandWhileBusy = { s with errBusy := true, everBusy := recBusy }) ∧
  (∀ s : State, s.nextEvent = .reset →
    ∃ t, step s = .next t ∧ t.errIllegal = false ∧ t.errBusy = false) ∧
  ∀ s t : State, step s = .next t → s.nextEvent ≠ .reset →
    (s.errIllegal = true → t.errIllegal = true ∨
      ∃ v : DWord, s.nextEvent = Event.wr s.cfg .status v ∧ v.getLsbD 2 = true) ∧
    (s.errBusy = true → t.errBusy = true ∨
      ∃ v : DWord, s.nextEvent = Event.wr s.cfg .status v ∧ v.getLsbD 3 = true) ∧
    (∀ v : DWord, s.nextEvent = Event.wr s.cfg .status v →
      (v.getLsbD 2 = true → t.errIllegal = false) ∧ (v.getLsbD 3 = true → t.errBusy = false))

/-- R168, R191: no step, reset neither, forgets that an error bit was ever set or that an access was ever
refused. (That reset keeps these records is the model's choice, log entries 5 and 6.) -/
def Obligations.MisuseIsNeverForgotten : Prop :=
  ∀ s t : State, step s = .next t →
    (s.everIllegal = true → t.everIllegal = true) ∧ (s.everBusy = true → t.everBusy = true) ∧
    (s.errIllegal = false → t.errIllegal = true → t.everIllegal = true) ∧
    (s.errBusy = false → t.errBusy = true → t.everBusy = true) ∧
    (s.everRefused = true → t.everRefused = true) ∧
    (s.refusedMark = false → t.refusedMark = true → t.everRefused = true)

/-! ## The mixing functions -/

/-- R101, on integers: the three steps of the round, modulo 2^32. -/
def Obligations.RoundOnIntegers : Prop :=
  ∀ (h l32 : Word) (b : Byte),
    (mixRound h b l32).toNat =
      let h1 := (h.toNat + (b.toNat ^^^ l32.toNat)) % 2 ^ 32
      let h2 := (h1 + h1 * 2 ^ 10) % 2 ^ 32
      h2 ^^^ (h2 / 2 ^ 6)

/-- R102, on integers: the three steps of the finalization, modulo 2^32. -/
def Obligations.FinalizationOnIntegers : Prop :=
  ∀ h l32 : Word,
    (fin h l32).toNat =
      let h4 := (h.toNat + h.toNat * 2 ^ 3) % 2 ^ 32
      let h5 := h4 ^^^ ((h4 / 2 ^ 11 + l32.toNat) % 2 ^ 32)
      (h5 + h5 * 2 ^ 15) % 2 ^ 32

/-- R103: the Mixer is the rounds over the bytes in sequence order, then finalization once; stated by its
equations on the byte sequence. -/
def Obligations.MixerRunsRoundsThenFinalization : Prop :=
  ∀ (s : Word) (d : List Byte) (b : Byte) (l : Word),
    mix s d = fin (rounds (BitVec.ofNat 32 d.length) s d) (BitVec.ofNat 32 d.length) ∧
    rounds l s [] = s ∧
    rounds l s (b :: d) = rounds l (mixRound s b l) d ∧
    rounds l s (d ++ [b]) = mixRound (rounds l s d) b l

/-- R109: the shift-add steps are multiplications, and the round and the finalization are what they are
with step 2 as * 1025, step 4 as * 9 and step 6 as * 32769. -/
def Obligations.ShiftAddIsMultiplication : Prop :=
  ∀ (h l32 : Word) (b : Byte),
    (h + h <<< 10 = h * 1025 ∧ h + h <<< 3 = h * 9 ∧ h + h <<< 15 = h * 32769) ∧
    (mixRound h b l32 =
      let h1 := h + (b.setWidth 32 ^^^ l32)
      let h2 := h1 * 1025
      h2 ^^^ h2 >>> 6) ∧
    (fin h l32 =
      let h4 := h * 9
      let h5 := h4 ^^^ (h4 >>> 11 + l32)
      h5 * 32769)

/-- R104: with any length, only its low 32 bits enter the arithmetic. The round and the finalization on the
low 32 bits are what steps 1 and 5 give with the whole length modulo 2^32; and two machines whose latched
lengths agree in their low 32 bits take the same sequencer step, whatever the upper bits are, but for `PHASE`,
since the upper bits say how many rounds run. -/
def Obligations.OnlyLowLengthBitsEnter : Prop :=
  (∀ (h : Word) (b : Byte) (n : Nat),
    (roundAdd h b (BitVec.ofNat 32 n)).toNat = (h.toNat + (b.toNat ^^^ n)) % 2 ^ 32 ∧
    ((mixRound h b (BitVec.ofNat 32 n)).toNat =
      let h1 := (h.toNat + (b.toNat ^^^ n)) % 2 ^ 32
      let h2 := (h1 + h1 * 2 ^ 10) % 2 ^ 32
      h2 ^^^ (h2 / 2 ^ 6)) ∧
    ((fin h (BitVec.ofNat 32 n)).toNat =
      let h4 := (h.toNat + h.toNat * 2 ^ 3) % 2 ^ 32
      let h5 := h4 ^^^ ((h4 / 2 ^ 11 + n) % 2 ^ 32)
      (h5 + h5 * 2 ^ 15) % 2 ^ 32)) ∧
  ∀ (s t : State) (n : DWord), s.facing .seq → n.setWidth 32 = s.llen.setWidth 32 → step s = .next t →
    ∃ p : Phase, step { s with llen := n } = .next { t with llen := n, phase := p }

/-- R106: at length 0 the Mixer is finalization on the seed, which is a bijection that maps 0 to 0, so the
result is 0 exactly for seed 0. -/
def Obligations.MixerAtLengthZero : Prop :=
  (∀ s : Word, mix s [] = fin s 0) ∧
  Function.Bijective (fun s : Word => fin s 0) ∧
  fin 0 0 = 0 ∧
  ∀ s : Word, mix s [] = 0 ↔ s = 0

/-- R130: Checksum64 of a present empty buffer, for any seeds; it is 0 exactly when `K3` and `K4` are 0,
and with the document's constants it is 0xC0850128B370162A. -/
def Obligations.Checksum64OfEmptyBuffer : Prop :=
  (∀ (c : Config) (seed : Word) (p : Bool),
    resultFor c seed [] (.checksum64 p) = (fin c.k3 0 ++ fin (fin c.k3 0 ^^^ c.k4) 0 : BitVec 64) ∧
    (resultFor c seed [] (.checksum64 p) = 0 ↔ c.k3 = 0 ∧ c.k4 = 0) ∧
    (checksum64 c (some []) = 0 ↔ c.k3 = 0 ∧ c.k4 = 0)) ∧
  ∀ (seed : Word) (p : Bool), resultFor Config.default seed [] (.checksum64 p) = 0xC0850128B370162A

/-- R128: the layout of RESULT. Read as a signed 64-bit integer it is the signed N-bit checksum, its low N
bits are that checksum's pattern, MIX is zero-extended, and every null command gives 0. -/
def Obligations.ResultLayout : Prop :=
  (∀ r1 r : Word,
    (∃ x, resultOf 2 r1 r = some x ∧ x = (fold16 r).signExtend 64 ∧ x.toInt = (fold16 r).toInt ∧
      (x.extractLsb' 0 16).toInt = (fold16 r).toInt) ∧
    (∃ x, resultOf 3 r1 r = some x ∧ x = r.signExtend 64 ∧ x.toInt = r.toInt ∧
      (x.extractLsb' 0 32).toInt = r.toInt) ∧
    (∃ x, resultOf 4 r1 r = some x ∧ x.extractLsb' 32 32 = r1 ∧ x.extractLsb' 0 32 = r ∧
      x.toInt = r1.toInt * 2 ^ 32 + r.toNat) ∧
    (∃ x, resultOf 1 r1 r = some x ∧ x = r.setWidth 64 ∧ x.extractLsb' 0 32 = r ∧
      x.toNat = r.toNat)) ∧
  ∀ (i : Instr) (s : State), presentOf i = false → s.busy = false →
    ∃ t, exec i s = .next t ∧ t.result = 0

/-! ## Whole commands

In a state whose schedule is empty every step is the sequencer's turn (model's choice, log entry 4). The
fields `disturbed` and `memReads` below are the model's own (log entries 7 and 9). -/

/-- R110, R148, R149: MIX of a readable buffer, from acceptance through `LEN` + 1 steps with the host
silent: the whole state it ends in. (The fields
`disturbed` and `memReads` are the model's own, log entries 7 and 9.) -/
def Obligations.MixRunsToItsResult : Prop :=
  ∀ (s : State) (d : List Byte), s.ready → d.length = s.len.toNat → holdsBuffer s.mem s.base d →
    ∃ s1, exec .mix s = .next s1 ∧
      runSteps (s.len.toNat + 1) s1 = .next
        { s with
          lop := 1, lbase := s.base, llen := s.len, idx := s.len, pass := .first, phase := .idle
          h := mix s.seed d
          result := (mix s.seed d).setWidth 64
          done := true, disturbed := false
          memReads := passReads s.base s.len.toNat ++ s.memReads }

/-- R125, R122, R148: CHECKSUM16 of a readable buffer; RESULT read as signed is Checksum16. (The fields
`disturbed` and `memReads` are the model's own, log entries 7 and 9.) -/
def Obligations.Checksum16RunsToItsResult : Prop :=
  ∀ (s : State) (d : List Byte), s.ready → d.length = s.len.toNat → holdsBuffer s.mem s.base d →
    ∃ s1, exec (.checksum16 true) s = .next s1 ∧
      runSteps (s.len.toNat + 1) s1 = .next
        { s with
          lop := 2, lbase := s.base, llen := s.len, idx := s.len, pass := .first, phase := .idle
          h := mix s.cfg.k1 d
          result := (fold16 (mix s.cfg.k1 d)).signExtend 64
          done := true, disturbed := false
          memReads := passReads s.base s.len.toNat ++ s.memReads } ∧
      ((fold16 (mix s.cfg.k1 d)).signExtend 64).toInt = checksum16 s.cfg (some d)

/-- R126, R123, R148: CHECKSUM32 of a readable buffer; RESULT read as signed is Checksum32. (The fields
`disturbed` and `memReads` are the model's own, log entries 7 and 9.) -/
def Obligations.Checksum32RunsToItsResult : Prop :=
  ∀ (s : State) (d : List Byte), s.ready → d.length = s.len.toNat → holdsBuffer s.mem s.base d →
    ∃ s1, exec (.checksum32 true) s = .next s1 ∧
      runSteps (s.len.toNat + 1) s1 = .next
        { s with
          lop := 3, lbase := s.base, llen := s.len, idx := s.len, pass := .first, phase := .idle
          h := mix s.cfg.k2 d
          result := (mix s.cfg.k2 d).signExtend 64
          done := true, disturbed := false
          memReads := passReads s.base s.len.toNat ++ s.memReads } ∧
      ((mix s.cfg.k2 d).signExtend 64).toInt = checksum32 s.cfg (some d)

/-- R127, R124, R148: CHECKSUM64 of a readable buffer, both passes; the buffer is read twice, `R1` is the
first-pass value, and RESULT read as signed is Checksum64. (The fields
`disturbed` and `memReads` are the model's own, log entries 7 and 9.) -/
def Obligations.Checksum64RunsToItsResult : Prop :=
  ∀ (s : State) (d : List Byte), s.ready → d.length = s.len.toNat → holdsBuffer s.mem s.base d →
    ∃ s1, exec (.checksum64 true) s = .next s1 ∧
      runSteps (2 * s.len.toNat + 2) s1 = .next
        { s with
          lop := 4, lbase := s.base, llen := s.len, idx := s.len, pass := .first, phase := .idle
          h := mix (mix s.cfg.k3 d ^^^ s.cfg.k4) d
          r1 := mix s.cfg.k3 d
          result := (mix s.cfg.k3 d ++ mix (mix s.cfg.k3 d ^^^ s.cfg.k4) d : BitVec 64)
          done := true, disturbed := false
          memReads := passReads s.base s.len.toNat ++ passReads s.base s.len.toNat ++ s.memReads } ∧
      (mix s.cfg.k3 d ++ mix (mix s.cfg.k3 d ^^^ s.cfg.k4) d : BitVec 64).toInt =
        checksum64 s.cfg (some d)

/-- R148: after `k` ROUND steps of a pass, `H` is the loop variable of R103 after `k` iterations, and the
bytes read are 0 to `k` - 1, in order, each once (R55; the record `memReads` is the model's own, log
entry 9). -/
def Obligations.HashAfterEachRound : Prop :=
  ∀ (s : State) (d : List Byte) (k : Nat),
    s.phase = .round → s.idx = 0 → s.disturbed = false → s.refusedMark = false → s.events = [] →
    0 < d.length → d.length = s.llen.toNat → holdsBuffer s.mem s.lbase d → k ≤ d.length →
      runSteps k s = .next
        { s with
          h := rounds (s.llen.setWidth 32) s.h (d.take k)
          idx := BitVec.ofNat 64 k
          phase := if k = d.length then .final else .round
          memReads := passReads s.lbase k ++ s.memReads }

/-- R149: how many sequencer steps a command takes. A mixing command is busy, its RESULT not yet written,
until exactly `LEN` + 1 steps a pass have been taken; then the run has ended, if no access was ever refused
in it (R191), clean if it was clean before. A null command takes no sequencer step. -/
def Obligations.SequencerStepCounts : Prop :=
  ∀ (i : Instr) (s : State), s.ready →
    (presentOf i = false → ∃ t, exec i s = .next t ∧ t.busy = false ∧ t.done = true ∧
      t.everRefused = s.everRefused ∧ (s.everRefused = false → t.runEnded)) ∧
    (presentOf i = true → ∀ d : List Byte, d.length = s.len.toNat → holdsBuffer s.mem s.base d →
      ∃ s1, exec i s = .next s1 ∧
        (∀ k, k < passesOf i * (s.len.toNat + 1) →
          ∃ t, runSteps k s1 = .next t ∧ t.busy = true ∧ t.done = false ∧ t.result = s.result) ∧
        ∃ t, runSteps (passesOf i * (s.len.toNat + 1)) s1 = .next t ∧ t.busy = false ∧ t.done = true ∧
          t.everRefused = s.everRefused ∧
          (s.everRefused = false →
            t.runEnded ∧ (s.errIllegal = false → s.errBusy = false → t.runClean)) ∧
          (s.neverMisused → t.neverMisused))

/-- R148, R68, R186, 93 I14: every schedule gives the same RESULT. Whatever register accesses the host makes
while an accepted command runs (operand writes, `CMD` writes, polls), and whatever it writes to memory outside
the command's buffer, in any interleaving with the sequencer's steps, the command completes at its last
sequencer step with its own result, and memory holds the host's writes and no other change. -/
def Obligations.EveryScheduleGivesTheResult : Prop :=
  ∀ (i : Instr) (s : State) (d : List Byte) (es rest : List Event),
    s.busy = false → s.refusedMark = false → presentOf i = true →
    d.length = s.len.toNat → holdsBuffer s.mem s.base d → s.scheduleFor i es →
      ∃ s1, exec i s = .next s1 ∧
        ∃ t, runSteps (es.length + 1) { s1 with events := es ++ .seq :: rest } = .next t ∧
          t.result = resultFor s.cfg s.seed d i ∧ t.done = true ∧ t.busy = false ∧
          t.events = rest ∧ t.mem = hostWrites s.mem es

/-- R129: determinism. Two machines with the same seeds, the same `SEED` where MIX reads it, and the same
bytes and length in their buffers, wherever the buffers lie, whatever earlier commands left behind, and
whatever their hosts do meanwhile that keeps the duty on the buffer (R68), each under its own schedule,
complete with the same RESULT; and so do two null commands, whatever the operands. -/
def Obligations.ResultDependsOnBufferAlone : Prop :=
  ∀ (i : Instr) (s u : State), s.busy = false → u.busy = false →
    s.cfg.k1 = u.cfg.k1 → s.cfg.k2 = u.cfg.k2 → s.cfg.k3 = u.cfg.k3 → s.cfg.k4 = u.cfg.k4 →
    (presentOf i = true → (i = .mix → s.seed = u.seed) → s.refusedMark = false → u.refusedMark = false →
      ∀ (d : List Byte) (es fs restS restU : List Event),
        d.length = s.len.toNat → d.length = u.len.toNat →
        holdsBuffer s.mem s.base d → holdsBuffer u.mem u.base d →
        s.scheduleFor i es → u.scheduleFor i fs →
          ∃ s1 u1 t v, exec i s = .next s1 ∧ exec i u = .next u1 ∧
            runSteps (es.length + 1) { s1 with events := es ++ .seq :: restS } = .next t ∧
            runSteps (fs.length + 1) { u1 with events := fs ++ .seq :: restU } = .next v ∧
            t.done = true ∧ v.done = true ∧ t.result = v.result) ∧
    (presentOf i = false →
      ∃ t v, exec i s = .next t ∧ exec i u = .next v ∧ t.result = v.result)

/-! ## The whole machine -/

/-- Every step keeps the invariant, from every state that meets it. -/
def Obligations.StepKeepsInvariant : Prop :=
  ∀ s t : State, s.Inv → step s = .next t → t.Inv

/-- The invariant holds right after reset, on any platform whose memory is in canonical form. -/
def Obligations.InvariantAtReset : Prop :=
  (∀ (c : Config) (m : Memory), m.wf = true → (State.resetFor c m).Inv) ∧ State.reset.Inv

/-- From every state that meets the invariant and is not refused, the machine goes on: no fault, no
refusal, whatever happens next. (That the turn of a sequencer that has no step, idle or stuck, passes as a
next state is the model's choice, log entry 4; that a refused access is a next state with the mark set is
log entry 5.) -/
def Obligations.UnrefusedMachineGoesOn : Prop :=
  ∀ s : State, s.Inv → s.refusedMark = false → ∃ t, step s = .next t

/-- R180: reset, at any time, with every register's reset value; the data memory is not touched. (What it
does to the model's own marks and records is the model's choice, log entries 5, 6, 7, 9 and 14, and left
open here.) -/
def Obligations.ResetLeavesResetValues : Prop :=
  ∀ s : State, s.nextEvent = .reset →
    ∃ (mark recRefused recIllegal recBusy dist : Bool) (n : Nat) (hostReads memReads : List DWord),
      step s = .next
        { s.popEvent with
          done := false, errIllegal := false, errBusy := false, seed := 0, base := 0, len := 0
          result := 0, h := 0, idx := 0, phase := .idle, pass := .first, lop := 0, lbase := 0
          llen := 0, r1 := 0, refusedMark := mark, everRefused := recRefused
          everIllegal := recIllegal, everBusy := recBusy, disturbed := dist, draws := n, hostReads := hostReads, memReads := memReads }

/-- R37: no host access and no command changes the seed constants (nor where the register space is). -/
def Obligations.ConfigurationNeverChanges : Prop :=
  ∀ s t : State, step s = .next t → t.cfg = s.cfg

/-- R50, R56: JMIX never writes the data memory; only a host memory write changes a byte, its own; only a
ROUND step reads (the record `memReads` is the model's own, log entry 9); and no step changes which reads
are admitted (the model's reading of R56, log entry 3). -/
def Obligations.OnlyTheHostWritesMemory : Prop :=
  ∀ s t : State, step s = .next t →
    (∀ a, t.mem.read a ≠ s.mem.read a → ∃ b, s.nextEvent = .memWrite a b) ∧
    (∀ a, (t.mem.read a).isSome = (s.mem.read a).isSome) ∧
    (t.memReads = s.memReads ∨
      (s.nextEvent = .seq ∧ s.phase = .round ∧ t.memReads = (s.lbase + s.idx) :: s.memReads))

/-- R29, R185: RESULT changes only at a completion: a FINAL step, or the `CMD` write of a null command, a legal
word with `P` = 0; or by reset. -/
def Obligations.ResultChangesOnlyAtCompletion : Prop :=
  ∀ s t : State, step s = .next t → t.result ≠ s.result →
    (s.nextEvent = .seq ∧ s.phase = .final ∧ t.phase = .idle ∧ t.done = true) ∨
    (∃ v : DWord, s.nextEvent = Event.wr s.cfg .cmd v ∧ legal (v.setWidth 32) = true ∧
      v.getLsbD 3 = false ∧ s.phase = .idle ∧ t.phase = .idle ∧ t.result = 0 ∧ t.done = true) ∨
    s.nextEvent = .reset

/-- R35, R26 to R28, R186: while a command runs, no step but reset changes its latched operands, and
`SEED`, `BASE` and `LEN` change only by the host's own write to them. -/
def Obligations.OperandsChangeOnlyByTheHost : Prop :=
  ∀ s t : State, step s = .next t → s.nextEvent ≠ .reset →
    (s.busy = true → t.lop = s.lop ∧ t.lbase = s.lbase ∧ t.llen = s.llen) ∧
    (t.seed ≠ s.seed → ∃ v, s.nextEvent = Event.wr s.cfg .seed v ∧ t.seed = v.setWidth 32) ∧
    (t.base ≠ s.base → ∃ v, s.nextEvent = Event.wr s.cfg .base v ∧ t.base = v) ∧
    (t.len ≠ s.len → ∃ v, s.nextEvent = Event.wr s.cfg .len v ∧ t.len = v)

/-- R36: `R1` changes only at the end of pass 1 of CHECKSUM64, or by reset. -/
def Obligations.FirstPassResultIsKept : Prop :=
  ∀ s t : State, step s = .next t → t.r1 ≠ s.r1 →
    (s.nextEvent = .seq ∧ s.phase = .final ∧ s.lop = 4 ∧ s.pass = .first) ∨ s.nextEvent = .reset

/-- R175, R25: `PHASE` leaves IDLE only by a `CMD` write that is accepted; a busy machine becomes idle only
by a FINAL step, with `DONE` set, or by reset. -/
def Obligations.BusyStartsAndEndsAsTheRulesSay : Prop :=
  ∀ s t : State, step s = .next t →
    (s.busy = false → t.busy = true →
      ∃ v : DWord, s.nextEvent = Event.wr s.cfg .cmd v ∧ legal (v.setWidth 32) = true ∧
        v.getLsbD 3 = true ∧ t.done = false) ∧
    (s.busy = true → t.busy = false →
      (s.nextEvent = .seq ∧ s.phase = .final ∧ t.done = true) ∨ s.nextEvent = .reset)

/-- R191, R30: after an access that R30 refuses, the run has not ended and never ends, whatever happens later:
a reset, which lets the machine go on (model's choice, log entry 5), does not take the refused access back. -/
def Obligations.RefusedRunNeverEnds : Prop :=
  ∀ (s t u : State) (addr width k : Nat) (v : DWord), regAtBus s.cfg addr width = none →
    s.facing (.read addr width) ∨ s.facing (.write addr width v) → step s = .next t →
      ¬ t.runEnded ∧ (runSteps k t = .next u → ¬ u.runEnded ∧ ¬ u.runClean)
end

