-- ==== Sys2Proof/Laws/Memory.lean ====
section
/-! SUPPORT. The data memory: a write keeps the canonical form and the set of admitted reads, is read back,
and leaves every other address alone. -/

namespace Sys2Proof.Machine

/-- A write changes no address of the list. -/
@[simp] theorem Memory.setByte_keys (m : Memory) (a : Nat) (b : Byte) :
    (m.setByte a b).map Prod.fst = m.map Prod.fst := by
  induction m with
  | nil => rfl
  | cons c m ih =>
    simp only [Memory.setByte]
    split
    · simp_all
    · simp [ih]

theorem Memory.write_wf (m : Memory) (a : DWord) (b : Byte) (h : m.wf = true) :
    (m.write a b).wf = true := by
  simpa only [Memory.wf, Memory.write, Memory.setByte_keys] using h

theorem Memory.setByte_lookup (m : Memory) (a x : Nat) (b : Byte) :
    (m.setByte a b).lookup x = if x = a then (m.lookup a).map fun _ => b else m.lookup x := by
  induction m with
  | nil => simp [Memory.setByte]
  | cons c m ih =>
    obtain ⟨k, v⟩ := c
    by_cases hk : k = a
    · subst hk
      by_cases hx : x = k
      · simp [Memory.setByte, hx]
      · have hb : (x == k) = false := by simpa using hx
        simp [Memory.setByte, List.lookup_cons, hx, hb]
    · by_cases hxk : x = k
      · simp [Memory.setByte, hk, hxk]
      · have hb : (x == k) = false := by simpa using hxk
        have ha : (a == k) = false := by simpa using fun h => hk h.symm
        simp [Memory.setByte, List.lookup_cons, hk, hb, ha, ih]

/-- Reading after a write: the byte written, where the memory admits reads of the address. -/
theorem Memory.read_write_same (m : Memory) (a : DWord) (b : Byte) :
    (m.write a b).read a = (m.read a).map fun _ => b := by
  simp [Memory.read, Memory.write, Memory.setByte_lookup]

/-- A write leaves every other address alone. -/
theorem Memory.read_write_other (m : Memory) (a x : DWord) (b : Byte) (h : x ≠ a) :
    (m.write a b).read x = m.read x := by
  have : x.toNat ≠ a.toNat := fun e => h (BitVec.eq_of_toNat_eq e)
  simp [Memory.read, Memory.write, Memory.setByte_lookup, this]

/-- A write changes no read's admission (R56). -/
theorem Memory.read_write_isSome (m : Memory) (a x : DWord) (b : Byte) :
    ((m.write a b).read x).isSome = (m.read x).isSome := by
  by_cases h : x = a
  · subst h
    simp [Memory.read_write_same]
  · rw [Memory.read_write_other m a x b h]

end Sys2Proof.Machine
end

