-- ==== Sys2Proof/Laws/PerInstr.lean ====
section
/-! SUPPORT. Statements made per instruction: decoding its word gives it back, and it is well formed. -/

namespace Sys2Proof.Laws.RoundTrip

/-- Decoding the word of an instruction gives the instruction back (R77). -/
def Statement (i : Instr) : Prop := decode (encode i) = .ok i

theorem mix : Statement .mix := rfl
theorem checksum16 (p : Bool) : Statement (.checksum16 p) := by cases p <;> rfl
theorem checksum32 (p : Bool) : Statement (.checksum32 p) := by cases p <;> rfl
theorem checksum64 (p : Bool) : Statement (.checksum64 p) := by cases p <;> rfl

end Sys2Proof.Laws.RoundTrip

namespace Sys2Proof.Laws.Legal

/-- Every instruction is well formed and its word is legal (R74). -/
def Statement (i : Instr) : Prop := i.wellFormed = true ∧ legal (encode i) = true

theorem mix : Statement .mix := ⟨rfl, rfl⟩
theorem checksum16 (p : Bool) : Statement (.checksum16 p) := by cases p <;> exact ⟨rfl, rfl⟩
theorem checksum32 (p : Bool) : Statement (.checksum32 p) := by cases p <;> exact ⟨rfl, rfl⟩
theorem checksum64 (p : Bool) : Statement (.checksum64 p) := by cases p <;> exact ⟨rfl, rfl⟩

end Sys2Proof.Laws.Legal
end

