-- ==== Sys2Proof/Laws/State.lean ====
section
/-! SUPPORT. Each named update of the state, field by field: what it writes and what it leaves. -/

namespace Sys2Proof.Machine

/-! `State.raise` -/

@[simp] theorem raise_cfg (s : State) (c : Cause) : (s.raise c).cfg = s.cfg := rfl
@[simp] theorem raise_done (s : State) (c : Cause) : (s.raise c).done = s.done := rfl
@[simp] theorem raise_errIllegal (s : State) (c : Cause) : (s.raise c).errIllegal = (s.errIllegal || decide (c = .illegalCommand)) := rfl
@[simp] theorem raise_errBusy (s : State) (c : Cause) : (s.raise c).errBusy = (s.errBusy || decide (c = .commandWhileBusy)) := rfl
@[simp] theorem raise_seed (s : State) (c : Cause) : (s.raise c).seed = s.seed := rfl
@[simp] theorem raise_base (s : State) (c : Cause) : (s.raise c).base = s.base := rfl
@[simp] theorem raise_len (s : State) (c : Cause) : (s.raise c).len = s.len := rfl
@[simp] theorem raise_result (s : State) (c : Cause) : (s.raise c).result = s.result := rfl
@[simp] theorem raise_h (s : State) (c : Cause) : (s.raise c).h = s.h := rfl
@[simp] theorem raise_idx (s : State) (c : Cause) : (s.raise c).idx = s.idx := rfl
@[simp] theorem raise_phase (s : State) (c : Cause) : (s.raise c).phase = s.phase := rfl
@[simp] theorem raise_pass (s : State) (c : Cause) : (s.raise c).pass = s.pass := rfl
@[simp] theorem raise_lop (s : State) (c : Cause) : (s.raise c).lop = s.lop := rfl
@[simp] theorem raise_lbase (s : State) (c : Cause) : (s.raise c).lbase = s.lbase := rfl
@[simp] theorem raise_llen (s : State) (c : Cause) : (s.raise c).llen = s.llen := rfl
@[simp] theorem raise_r1 (s : State) (c : Cause) : (s.raise c).r1 = s.r1 := rfl
@[simp] theorem raise_mem (s : State) (c : Cause) : (s.raise c).mem = s.mem := rfl
@[simp] theorem raise_refusedMark (s : State) (c : Cause) : (s.raise c).refusedMark = s.refusedMark := rfl
@[simp] theorem raise_everRefused (s : State) (c : Cause) : (s.raise c).everRefused = s.everRefused := rfl
@[simp] theorem raise_everIllegal (s : State) (c : Cause) : (s.raise c).everIllegal = (s.everIllegal || decide (c = .illegalCommand)) := rfl
@[simp] theorem raise_everBusy (s : State) (c : Cause) : (s.raise c).everBusy = (s.everBusy || decide (c = .commandWhileBusy)) := rfl
@[simp] theorem raise_disturbed (s : State) (c : Cause) : (s.raise c).disturbed = s.disturbed := rfl
@[simp] theorem raise_draws (s : State) (c : Cause) : (s.raise c).draws = s.draws := rfl
@[simp] theorem raise_events (s : State) (c : Cause) : (s.raise c).events = s.events := rfl
@[simp] theorem raise_hostReads (s : State) (c : Cause) : (s.raise c).hostReads = s.hostReads := rfl
@[simp] theorem raise_memReads (s : State) (c : Cause) : (s.raise c).memReads = s.memReads := rfl

/-! `State.clearErrors` -/

@[simp] theorem clearErrors_cfg (s : State) (v : Word) : (s.clearErrors v).cfg = s.cfg := rfl
@[simp] theorem clearErrors_done (s : State) (v : Word) : (s.clearErrors v).done = s.done := rfl
@[simp] theorem clearErrors_errIllegal (s : State) (v : Word) : (s.clearErrors v).errIllegal = (s.errIllegal && !v.getLsbD 2) := rfl
@[simp] theorem clearErrors_errBusy (s : State) (v : Word) : (s.clearErrors v).errBusy = (s.errBusy && !v.getLsbD 3) := rfl
@[simp] theorem clearErrors_seed (s : State) (v : Word) : (s.clearErrors v).seed = s.seed := rfl
@[simp] theorem clearErrors_base (s : State) (v : Word) : (s.clearErrors v).base = s.base := rfl
@[simp] theorem clearErrors_len (s : State) (v : Word) : (s.clearErrors v).len = s.len := rfl
@[simp] theorem clearErrors_result (s : State) (v : Word) : (s.clearErrors v).result = s.result := rfl
@[simp] theorem clearErrors_h (s : State) (v : Word) : (s.clearErrors v).h = s.h := rfl
@[simp] theorem clearErrors_idx (s : State) (v : Word) : (s.clearErrors v).idx = s.idx := rfl
@[simp] theorem clearErrors_phase (s : State) (v : Word) : (s.clearErrors v).phase = s.phase := rfl
@[simp] theorem clearErrors_pass (s : State) (v : Word) : (s.clearErrors v).pass = s.pass := rfl
@[simp] theorem clearErrors_lop (s : State) (v : Word) : (s.clearErrors v).lop = s.lop := rfl
@[simp] theorem clearErrors_lbase (s : State) (v : Word) : (s.clearErrors v).lbase = s.lbase := rfl
@[simp] theorem clearErrors_llen (s : State) (v : Word) : (s.clearErrors v).llen = s.llen := rfl
@[simp] theorem clearErrors_r1 (s : State) (v : Word) : (s.clearErrors v).r1 = s.r1 := rfl
@[simp] theorem clearErrors_mem (s : State) (v : Word) : (s.clearErrors v).mem = s.mem := rfl
@[simp] theorem clearErrors_refusedMark (s : State) (v : Word) : (s.clearErrors v).refusedMark = s.refusedMark := rfl
@[simp] theorem clearErrors_everRefused (s : State) (v : Word) : (s.clearErrors v).everRefused = s.everRefused := rfl
@[simp] theorem clearErrors_everIllegal (s : State) (v : Word) : (s.clearErrors v).everIllegal = s.everIllegal := rfl
@[simp] theorem clearErrors_everBusy (s : State) (v : Word) : (s.clearErrors v).everBusy = s.everBusy := rfl
@[simp] theorem clearErrors_disturbed (s : State) (v : Word) : (s.clearErrors v).disturbed = s.disturbed := rfl
@[simp] theorem clearErrors_draws (s : State) (v : Word) : (s.clearErrors v).draws = s.draws := rfl
@[simp] theorem clearErrors_events (s : State) (v : Word) : (s.clearErrors v).events = s.events := rfl
@[simp] theorem clearErrors_hostReads (s : State) (v : Word) : (s.clearErrors v).hostReads = s.hostReads := rfl
@[simp] theorem clearErrors_memReads (s : State) (v : Word) : (s.clearErrors v).memReads = s.memReads := rfl

/-! `State.completeNull` -/

@[simp] theorem completeNull_cfg (s : State) : s.completeNull.cfg = s.cfg := rfl
@[simp] theorem completeNull_done (s : State) : s.completeNull.done = true := rfl
@[simp] theorem completeNull_errIllegal (s : State) : s.completeNull.errIllegal = s.errIllegal := rfl
@[simp] theorem completeNull_errBusy (s : State) : s.completeNull.errBusy = s.errBusy := rfl
@[simp] theorem completeNull_seed (s : State) : s.completeNull.seed = s.seed := rfl
@[simp] theorem completeNull_base (s : State) : s.completeNull.base = s.base := rfl
@[simp] theorem completeNull_len (s : State) : s.completeNull.len = s.len := rfl
@[simp] theorem completeNull_result (s : State) : s.completeNull.result = 0 := rfl
@[simp] theorem completeNull_h (s : State) : s.completeNull.h = s.h := rfl
@[simp] theorem completeNull_idx (s : State) : s.completeNull.idx = s.idx := rfl
@[simp] theorem completeNull_phase (s : State) : s.completeNull.phase = s.phase := rfl
@[simp] theorem completeNull_pass (s : State) : s.completeNull.pass = s.pass := rfl
@[simp] theorem completeNull_lop (s : State) : s.completeNull.lop = s.lop := rfl
@[simp] theorem completeNull_lbase (s : State) : s.completeNull.lbase = s.lbase := rfl
@[simp] theorem completeNull_llen (s : State) : s.completeNull.llen = s.llen := rfl
@[simp] theorem completeNull_r1 (s : State) : s.completeNull.r1 = s.r1 := rfl
@[simp] theorem completeNull_mem (s : State) : s.completeNull.mem = s.mem := rfl
@[simp] theorem completeNull_refusedMark (s : State) : s.completeNull.refusedMark = s.refusedMark := rfl
@[simp] theorem completeNull_everRefused (s : State) : s.completeNull.everRefused = s.everRefused := rfl
@[simp] theorem completeNull_everIllegal (s : State) : s.completeNull.everIllegal = s.everIllegal := rfl
@[simp] theorem completeNull_everBusy (s : State) : s.completeNull.everBusy = s.everBusy := rfl
@[simp] theorem completeNull_disturbed (s : State) : s.completeNull.disturbed = s.disturbed := rfl
@[simp] theorem completeNull_draws (s : State) : s.completeNull.draws = s.draws := rfl
@[simp] theorem completeNull_events (s : State) : s.completeNull.events = s.events := rfl
@[simp] theorem completeNull_hostReads (s : State) : s.completeNull.hostReads = s.hostReads := rfl
@[simp] theorem completeNull_memReads (s : State) : s.completeNull.memReads = s.memReads := rfl

/-! `State.accept` -/

@[simp] theorem accept_cfg (s : State) (op : BitVec 3) (seed : Word) : (s.accept op seed).cfg = s.cfg := rfl
@[simp] theorem accept_done (s : State) (op : BitVec 3) (seed : Word) : (s.accept op seed).done = false := rfl
@[simp] theorem accept_errIllegal (s : State) (op : BitVec 3) (seed : Word) : (s.accept op seed).errIllegal = s.errIllegal := rfl
@[simp] theorem accept_errBusy (s : State) (op : BitVec 3) (seed : Word) : (s.accept op seed).errBusy = s.errBusy := rfl
@[simp] theorem accept_seed (s : State) (op : BitVec 3) (seed : Word) : (s.accept op seed).seed = s.seed := rfl
@[simp] theorem accept_base (s : State) (op : BitVec 3) (seed : Word) : (s.accept op seed).base = s.base := rfl
@[simp] theorem accept_len (s : State) (op : BitVec 3) (seed : Word) : (s.accept op seed).len = s.len := rfl
@[simp] theorem accept_result (s : State) (op : BitVec 3) (seed : Word) : (s.accept op seed).result = s.result := rfl
@[simp] theorem accept_h (s : State) (op : BitVec 3) (seed : Word) : (s.accept op seed).h = seed := rfl
@[simp] theorem accept_idx (s : State) (op : BitVec 3) (seed : Word) : (s.accept op seed).idx = 0 := rfl
@[simp] theorem accept_phase (s : State) (op : BitVec 3) (seed : Word) : (s.accept op seed).phase = (startPhase s.len) := rfl
@[simp] theorem accept_pass (s : State) (op : BitVec 3) (seed : Word) : (s.accept op seed).pass = .first := rfl
@[simp] theorem accept_lop (s : State) (op : BitVec 3) (seed : Word) : (s.accept op seed).lop = op := rfl
@[simp] theorem accept_lbase (s : State) (op : BitVec 3) (seed : Word) : (s.accept op seed).lbase = s.base := rfl
@[simp] theorem accept_llen (s : State) (op : BitVec 3) (seed : Word) : (s.accept op seed).llen = s.len := rfl
@[simp] theorem accept_r1 (s : State) (op : BitVec 3) (seed : Word) : (s.accept op seed).r1 = s.r1 := rfl
@[simp] theorem accept_mem (s : State) (op : BitVec 3) (seed : Word) : (s.accept op seed).mem = s.mem := rfl
@[simp] theorem accept_refusedMark (s : State) (op : BitVec 3) (seed : Word) : (s.accept op seed).refusedMark = s.refusedMark := rfl
@[simp] theorem accept_everRefused (s : State) (op : BitVec 3) (seed : Word) : (s.accept op seed).everRefused = s.everRefused := rfl
@[simp] theorem accept_everIllegal (s : State) (op : BitVec 3) (seed : Word) : (s.accept op seed).everIllegal = s.everIllegal := rfl
@[simp] theorem accept_everBusy (s : State) (op : BitVec 3) (seed : Word) : (s.accept op seed).everBusy = s.everBusy := rfl
@[simp] theorem accept_disturbed (s : State) (op : BitVec 3) (seed : Word) : (s.accept op seed).disturbed = false := rfl
@[simp] theorem accept_draws (s : State) (op : BitVec 3) (seed : Word) : (s.accept op seed).draws = s.draws := rfl
@[simp] theorem accept_events (s : State) (op : BitVec 3) (seed : Word) : (s.accept op seed).events = s.events := rfl
@[simp] theorem accept_hostReads (s : State) (op : BitVec 3) (seed : Word) : (s.accept op seed).hostReads = s.hostReads := rfl
@[simp] theorem accept_memReads (s : State) (op : BitVec 3) (seed : Word) : (s.accept op seed).memReads = s.memReads := rfl

/-! `State.markRefused` -/

@[simp] theorem markRefused_cfg (s : State) : s.markRefused.cfg = s.cfg := rfl
@[simp] theorem markRefused_done (s : State) : s.markRefused.done = s.done := rfl
@[simp] theorem markRefused_errIllegal (s : State) : s.markRefused.errIllegal = s.errIllegal := rfl
@[simp] theorem markRefused_errBusy (s : State) : s.markRefused.errBusy = s.errBusy := rfl
@[simp] theorem markRefused_seed (s : State) : s.markRefused.seed = s.seed := rfl
@[simp] theorem markRefused_base (s : State) : s.markRefused.base = s.base := rfl
@[simp] theorem markRefused_len (s : State) : s.markRefused.len = s.len := rfl
@[simp] theorem markRefused_result (s : State) : s.markRefused.result = s.result := rfl
@[simp] theorem markRefused_h (s : State) : s.markRefused.h = s.h := rfl
@[simp] theorem markRefused_idx (s : State) : s.markRefused.idx = s.idx := rfl
@[simp] theorem markRefused_phase (s : State) : s.markRefused.phase = s.phase := rfl
@[simp] theorem markRefused_pass (s : State) : s.markRefused.pass = s.pass := rfl
@[simp] theorem markRefused_lop (s : State) : s.markRefused.lop = s.lop := rfl
@[simp] theorem markRefused_lbase (s : State) : s.markRefused.lbase = s.lbase := rfl
@[simp] theorem markRefused_llen (s : State) : s.markRefused.llen = s.llen := rfl
@[simp] theorem markRefused_r1 (s : State) : s.markRefused.r1 = s.r1 := rfl
@[simp] theorem markRefused_mem (s : State) : s.markRefused.mem = s.mem := rfl
@[simp] theorem markRefused_refusedMark (s : State) : s.markRefused.refusedMark = true := rfl
@[simp] theorem markRefused_everRefused (s : State) : s.markRefused.everRefused = true := rfl
@[simp] theorem markRefused_everIllegal (s : State) : s.markRefused.everIllegal = s.everIllegal := rfl
@[simp] theorem markRefused_everBusy (s : State) : s.markRefused.everBusy = s.everBusy := rfl
@[simp] theorem markRefused_disturbed (s : State) : s.markRefused.disturbed = s.disturbed := rfl
@[simp] theorem markRefused_draws (s : State) : s.markRefused.draws = s.draws := rfl
@[simp] theorem markRefused_events (s : State) : s.markRefused.events = s.events := rfl
@[simp] theorem markRefused_hostReads (s : State) : s.markRefused.hostReads = s.hostReads := rfl
@[simp] theorem markRefused_memReads (s : State) : s.markRefused.memReads = s.memReads := rfl

/-! `State.recordHostRead` -/

@[simp] theorem recordHostRead_cfg (s : State) (v : DWord) : (s.recordHostRead v).cfg = s.cfg := rfl
@[simp] theorem recordHostRead_done (s : State) (v : DWord) : (s.recordHostRead v).done = s.done := rfl
@[simp] theorem recordHostRead_errIllegal (s : State) (v : DWord) : (s.recordHostRead v).errIllegal = s.errIllegal := rfl
@[simp] theorem recordHostRead_errBusy (s : State) (v : DWord) : (s.recordHostRead v).errBusy = s.errBusy := rfl
@[simp] theorem recordHostRead_seed (s : State) (v : DWord) : (s.recordHostRead v).seed = s.seed := rfl
@[simp] theorem recordHostRead_base (s : State) (v : DWord) : (s.recordHostRead v).base = s.base := rfl
@[simp] theorem recordHostRead_len (s : State) (v : DWord) : (s.recordHostRead v).len = s.len := rfl
@[simp] theorem recordHostRead_result (s : State) (v : DWord) : (s.recordHostRead v).result = s.result := rfl
@[simp] theorem recordHostRead_h (s : State) (v : DWord) : (s.recordHostRead v).h = s.h := rfl
@[simp] theorem recordHostRead_idx (s : State) (v : DWord) : (s.recordHostRead v).idx = s.idx := rfl
@[simp] theorem recordHostRead_phase (s : State) (v : DWord) : (s.recordHostRead v).phase = s.phase := rfl
@[simp] theorem recordHostRead_pass (s : State) (v : DWord) : (s.recordHostRead v).pass = s.pass := rfl
@[simp] theorem recordHostRead_lop (s : State) (v : DWord) : (s.recordHostRead v).lop = s.lop := rfl
@[simp] theorem recordHostRead_lbase (s : State) (v : DWord) : (s.recordHostRead v).lbase = s.lbase := rfl
@[simp] theorem recordHostRead_llen (s : State) (v : DWord) : (s.recordHostRead v).llen = s.llen := rfl
@[simp] theorem recordHostRead_r1 (s : State) (v : DWord) : (s.recordHostRead v).r1 = s.r1 := rfl
@[simp] theorem recordHostRead_mem (s : State) (v : DWord) : (s.recordHostRead v).mem = s.mem := rfl
@[simp] theorem recordHostRead_refusedMark (s : State) (v : DWord) : (s.recordHostRead v).refusedMark = s.refusedMark := rfl
@[simp] theorem recordHostRead_everRefused (s : State) (v : DWord) : (s.recordHostRead v).everRefused = s.everRefused := rfl
@[simp] theorem recordHostRead_everIllegal (s : State) (v : DWord) : (s.recordHostRead v).everIllegal = s.everIllegal := rfl
@[simp] theorem recordHostRead_everBusy (s : State) (v : DWord) : (s.recordHostRead v).everBusy = s.everBusy := rfl
@[simp] theorem recordHostRead_disturbed (s : State) (v : DWord) : (s.recordHostRead v).disturbed = s.disturbed := rfl
@[simp] theorem recordHostRead_draws (s : State) (v : DWord) : (s.recordHostRead v).draws = s.draws := rfl
@[simp] theorem recordHostRead_events (s : State) (v : DWord) : (s.recordHostRead v).events = s.events := rfl
@[simp] theorem recordHostRead_hostReads (s : State) (v : DWord) : (s.recordHostRead v).hostReads = (v :: s.hostReads) := rfl
@[simp] theorem recordHostRead_memReads (s : State) (v : DWord) : (s.recordHostRead v).memReads = s.memReads := rfl

/-! `State.hostMemWrite` -/

@[simp] theorem hostMemWrite_cfg (s : State) (a : DWord) (b : Byte) : (s.hostMemWrite a b).cfg = s.cfg := rfl
@[simp] theorem hostMemWrite_done (s : State) (a : DWord) (b : Byte) : (s.hostMemWrite a b).done = s.done := rfl
@[simp] theorem hostMemWrite_errIllegal (s : State) (a : DWord) (b : Byte) : (s.hostMemWrite a b).errIllegal = s.errIllegal := rfl
@[simp] theorem hostMemWrite_errBusy (s : State) (a : DWord) (b : Byte) : (s.hostMemWrite a b).errBusy = s.errBusy := rfl
@[simp] theorem hostMemWrite_seed (s : State) (a : DWord) (b : Byte) : (s.hostMemWrite a b).seed = s.seed := rfl
@[simp] theorem hostMemWrite_base (s : State) (a : DWord) (b : Byte) : (s.hostMemWrite a b).base = s.base := rfl
@[simp] theorem hostMemWrite_len (s : State) (a : DWord) (b : Byte) : (s.hostMemWrite a b).len = s.len := rfl
@[simp] theorem hostMemWrite_result (s : State) (a : DWord) (b : Byte) : (s.hostMemWrite a b).result = s.result := rfl
@[simp] theorem hostMemWrite_h (s : State) (a : DWord) (b : Byte) : (s.hostMemWrite a b).h = s.h := rfl
@[simp] theorem hostMemWrite_idx (s : State) (a : DWord) (b : Byte) : (s.hostMemWrite a b).idx = s.idx := rfl
@[simp] theorem hostMemWrite_phase (s : State) (a : DWord) (b : Byte) : (s.hostMemWrite a b).phase = s.phase := rfl
@[simp] theorem hostMemWrite_pass (s : State) (a : DWord) (b : Byte) : (s.hostMemWrite a b).pass = s.pass := rfl
@[simp] theorem hostMemWrite_lop (s : State) (a : DWord) (b : Byte) : (s.hostMemWrite a b).lop = s.lop := rfl
@[simp] theorem hostMemWrite_lbase (s : State) (a : DWord) (b : Byte) : (s.hostMemWrite a b).lbase = s.lbase := rfl
@[simp] theorem hostMemWrite_llen (s : State) (a : DWord) (b : Byte) : (s.hostMemWrite a b).llen = s.llen := rfl
@[simp] theorem hostMemWrite_r1 (s : State) (a : DWord) (b : Byte) : (s.hostMemWrite a b).r1 = s.r1 := rfl
@[simp] theorem hostMemWrite_mem (s : State) (a : DWord) (b : Byte) : (s.hostMemWrite a b).mem = (s.mem.write a b) := rfl
@[simp] theorem hostMemWrite_refusedMark (s : State) (a : DWord) (b : Byte) : (s.hostMemWrite a b).refusedMark = s.refusedMark := rfl
@[simp] theorem hostMemWrite_everRefused (s : State) (a : DWord) (b : Byte) : (s.hostMemWrite a b).everRefused = s.everRefused := rfl
@[simp] theorem hostMemWrite_everIllegal (s : State) (a : DWord) (b : Byte) : (s.hostMemWrite a b).everIllegal = s.everIllegal := rfl
@[simp] theorem hostMemWrite_everBusy (s : State) (a : DWord) (b : Byte) : (s.hostMemWrite a b).everBusy = s.everBusy := rfl
@[simp] theorem hostMemWrite_disturbed (s : State) (a : DWord) (b : Byte) : (s.hostMemWrite a b).disturbed = (s.disturbed || (s.busy && s.inBuffer a)) := rfl
@[simp] theorem hostMemWrite_draws (s : State) (a : DWord) (b : Byte) : (s.hostMemWrite a b).draws = s.draws := rfl
@[simp] theorem hostMemWrite_events (s : State) (a : DWord) (b : Byte) : (s.hostMemWrite a b).events = s.events := rfl
@[simp] theorem hostMemWrite_hostReads (s : State) (a : DWord) (b : Byte) : (s.hostMemWrite a b).hostReads = s.hostReads := rfl
@[simp] theorem hostMemWrite_memReads (s : State) (a : DWord) (b : Byte) : (s.hostMemWrite a b).memReads = s.memReads := rfl

/-! `State.popEvent` -/

@[simp] theorem popEvent_cfg (s : State) : s.popEvent.cfg = s.cfg := rfl
@[simp] theorem popEvent_done (s : State) : s.popEvent.done = s.done := rfl
@[simp] theorem popEvent_errIllegal (s : State) : s.popEvent.errIllegal = s.errIllegal := rfl
@[simp] theorem popEvent_errBusy (s : State) : s.popEvent.errBusy = s.errBusy := rfl
@[simp] theorem popEvent_seed (s : State) : s.popEvent.seed = s.seed := rfl
@[simp] theorem popEvent_base (s : State) : s.popEvent.base = s.base := rfl
@[simp] theorem popEvent_len (s : State) : s.popEvent.len = s.len := rfl
@[simp] theorem popEvent_result (s : State) : s.popEvent.result = s.result := rfl
@[simp] theorem popEvent_h (s : State) : s.popEvent.h = s.h := rfl
@[simp] theorem popEvent_idx (s : State) : s.popEvent.idx = s.idx := rfl
@[simp] theorem popEvent_phase (s : State) : s.popEvent.phase = s.phase := rfl
@[simp] theorem popEvent_pass (s : State) : s.popEvent.pass = s.pass := rfl
@[simp] theorem popEvent_lop (s : State) : s.popEvent.lop = s.lop := rfl
@[simp] theorem popEvent_lbase (s : State) : s.popEvent.lbase = s.lbase := rfl
@[simp] theorem popEvent_llen (s : State) : s.popEvent.llen = s.llen := rfl
@[simp] theorem popEvent_r1 (s : State) : s.popEvent.r1 = s.r1 := rfl
@[simp] theorem popEvent_mem (s : State) : s.popEvent.mem = s.mem := rfl
@[simp] theorem popEvent_refusedMark (s : State) : s.popEvent.refusedMark = s.refusedMark := rfl
@[simp] theorem popEvent_everRefused (s : State) : s.popEvent.everRefused = s.everRefused := rfl
@[simp] theorem popEvent_everIllegal (s : State) : s.popEvent.everIllegal = s.everIllegal := rfl
@[simp] theorem popEvent_everBusy (s : State) : s.popEvent.everBusy = s.everBusy := rfl
@[simp] theorem popEvent_disturbed (s : State) : s.popEvent.disturbed = s.disturbed := rfl
@[simp] theorem popEvent_draws (s : State) : s.popEvent.draws = s.draws := rfl
@[simp] theorem popEvent_events (s : State) : s.popEvent.events = s.events.tail := rfl
@[simp] theorem popEvent_hostReads (s : State) : s.popEvent.hostReads = s.hostReads := rfl
@[simp] theorem popEvent_memReads (s : State) : s.popEvent.memReads = s.memReads := rfl

/-! `State.roundWith` -/

@[simp] theorem roundWith_cfg (s : State) (b : Byte) : (s.roundWith b).cfg = s.cfg := rfl
@[simp] theorem roundWith_done (s : State) (b : Byte) : (s.roundWith b).done = s.done := rfl
@[simp] theorem roundWith_errIllegal (s : State) (b : Byte) : (s.roundWith b).errIllegal = s.errIllegal := rfl
@[simp] theorem roundWith_errBusy (s : State) (b : Byte) : (s.roundWith b).errBusy = s.errBusy := rfl
@[simp] theorem roundWith_seed (s : State) (b : Byte) : (s.roundWith b).seed = s.seed := rfl
@[simp] theorem roundWith_base (s : State) (b : Byte) : (s.roundWith b).base = s.base := rfl
@[simp] theorem roundWith_len (s : State) (b : Byte) : (s.roundWith b).len = s.len := rfl
@[simp] theorem roundWith_result (s : State) (b : Byte) : (s.roundWith b).result = s.result := rfl
@[simp] theorem roundWith_h (s : State) (b : Byte) : (s.roundWith b).h = (mixRound s.h b s.l32) := rfl
@[simp] theorem roundWith_idx (s : State) (b : Byte) : (s.roundWith b).idx = (s.idx + 1) := rfl
@[simp] theorem roundWith_phase (s : State) (b : Byte) : (s.roundWith b).phase = (if s.idx + 1 = s.llen then .final else s.phase) := rfl
@[simp] theorem roundWith_pass (s : State) (b : Byte) : (s.roundWith b).pass = s.pass := rfl
@[simp] theorem roundWith_lop (s : State) (b : Byte) : (s.roundWith b).lop = s.lop := rfl
@[simp] theorem roundWith_lbase (s : State) (b : Byte) : (s.roundWith b).lbase = s.lbase := rfl
@[simp] theorem roundWith_llen (s : State) (b : Byte) : (s.roundWith b).llen = s.llen := rfl
@[simp] theorem roundWith_r1 (s : State) (b : Byte) : (s.roundWith b).r1 = s.r1 := rfl
@[simp] theorem roundWith_mem (s : State) (b : Byte) : (s.roundWith b).mem = s.mem := rfl
@[simp] theorem roundWith_refusedMark (s : State) (b : Byte) : (s.roundWith b).refusedMark = s.refusedMark := rfl
@[simp] theorem roundWith_everRefused (s : State) (b : Byte) : (s.roundWith b).everRefused = s.everRefused := rfl
@[simp] theorem roundWith_everIllegal (s : State) (b : Byte) : (s.roundWith b).everIllegal = s.everIllegal := rfl
@[simp] theorem roundWith_everBusy (s : State) (b : Byte) : (s.roundWith b).everBusy = s.everBusy := rfl
@[simp] theorem roundWith_disturbed (s : State) (b : Byte) : (s.roundWith b).disturbed = s.disturbed := rfl
@[simp] theorem roundWith_draws (s : State) (b : Byte) : (s.roundWith b).draws = (if s.disturbed then s.draws + 1 else s.draws) := rfl
@[simp] theorem roundWith_events (s : State) (b : Byte) : (s.roundWith b).events = s.events := rfl
@[simp] theorem roundWith_hostReads (s : State) (b : Byte) : (s.roundWith b).hostReads = s.hostReads := rfl
@[simp] theorem roundWith_memReads (s : State) (b : Byte) : (s.roundWith b).memReads = (s.readAddr :: s.memReads) := rfl

/-! `State.finalPass1` -/

@[simp] theorem finalPass1_cfg (s : State) : s.finalPass1.cfg = s.cfg := rfl
@[simp] theorem finalPass1_done (s : State) : s.finalPass1.done = s.done := rfl
@[simp] theorem finalPass1_errIllegal (s : State) : s.finalPass1.errIllegal = s.errIllegal := rfl
@[simp] theorem finalPass1_errBusy (s : State) : s.finalPass1.errBusy = s.errBusy := rfl
@[simp] theorem finalPass1_seed (s : State) : s.finalPass1.seed = s.seed := rfl
@[simp] theorem finalPass1_base (s : State) : s.finalPass1.base = s.base := rfl
@[simp] theorem finalPass1_len (s : State) : s.finalPass1.len = s.len := rfl
@[simp] theorem finalPass1_result (s : State) : s.finalPass1.result = s.result := rfl
@[simp] theorem finalPass1_h (s : State) : s.finalPass1.h = (fin s.h s.l32 ^^^ s.cfg.k4) := rfl
@[simp] theorem finalPass1_idx (s : State) : s.finalPass1.idx = 0 := rfl
@[simp] theorem finalPass1_phase (s : State) : s.finalPass1.phase = (startPhase s.llen) := rfl
@[simp] theorem finalPass1_pass (s : State) : s.finalPass1.pass = .second := rfl
@[simp] theorem finalPass1_lop (s : State) : s.finalPass1.lop = s.lop := rfl
@[simp] theorem finalPass1_lbase (s : State) : s.finalPass1.lbase = s.lbase := rfl
@[simp] theorem finalPass1_llen (s : State) : s.finalPass1.llen = s.llen := rfl
@[simp] theorem finalPass1_r1 (s : State) : s.finalPass1.r1 = (fin s.h s.l32) := rfl
@[simp] theorem finalPass1_mem (s : State) : s.finalPass1.mem = s.mem := rfl
@[simp] theorem finalPass1_refusedMark (s : State) : s.finalPass1.refusedMark = s.refusedMark := rfl
@[simp] theorem finalPass1_everRefused (s : State) : s.finalPass1.everRefused = s.everRefused := rfl
@[simp] theorem finalPass1_everIllegal (s : State) : s.finalPass1.everIllegal = s.everIllegal := rfl
@[simp] theorem finalPass1_everBusy (s : State) : s.finalPass1.everBusy = s.everBusy := rfl
@[simp] theorem finalPass1_disturbed (s : State) : s.finalPass1.disturbed = s.disturbed := rfl
@[simp] theorem finalPass1_draws (s : State) : s.finalPass1.draws = s.draws := rfl
@[simp] theorem finalPass1_events (s : State) : s.finalPass1.events = s.events := rfl
@[simp] theorem finalPass1_hostReads (s : State) : s.finalPass1.hostReads = s.hostReads := rfl
@[simp] theorem finalPass1_memReads (s : State) : s.finalPass1.memReads = s.memReads := rfl

/-! `State.completeWith` -/

@[simp] theorem completeWith_cfg (s : State) (r : DWord) : (s.completeWith r).cfg = s.cfg := rfl
@[simp] theorem completeWith_done (s : State) (r : DWord) : (s.completeWith r).done = true := rfl
@[simp] theorem completeWith_errIllegal (s : State) (r : DWord) : (s.completeWith r).errIllegal = s.errIllegal := rfl
@[simp] theorem completeWith_errBusy (s : State) (r : DWord) : (s.completeWith r).errBusy = s.errBusy := rfl
@[simp] theorem completeWith_seed (s : State) (r : DWord) : (s.completeWith r).seed = s.seed := rfl
@[simp] theorem completeWith_base (s : State) (r : DWord) : (s.completeWith r).base = s.base := rfl
@[simp] theorem completeWith_len (s : State) (r : DWord) : (s.completeWith r).len = s.len := rfl
@[simp] theorem completeWith_result (s : State) (r : DWord) : (s.completeWith r).result = r := rfl
@[simp] theorem completeWith_h (s : State) (r : DWord) : (s.completeWith r).h = (fin s.h s.l32) := rfl
@[simp] theorem completeWith_idx (s : State) (r : DWord) : (s.completeWith r).idx = s.idx := rfl
@[simp] theorem completeWith_phase (s : State) (r : DWord) : (s.completeWith r).phase = .idle := rfl
@[simp] theorem completeWith_pass (s : State) (r : DWord) : (s.completeWith r).pass = .first := rfl
@[simp] theorem completeWith_lop (s : State) (r : DWord) : (s.completeWith r).lop = s.lop := rfl
@[simp] theorem completeWith_lbase (s : State) (r : DWord) : (s.completeWith r).lbase = s.lbase := rfl
@[simp] theorem completeWith_llen (s : State) (r : DWord) : (s.completeWith r).llen = s.llen := rfl
@[simp] theorem completeWith_r1 (s : State) (r : DWord) : (s.completeWith r).r1 = s.r1 := rfl
@[simp] theorem completeWith_mem (s : State) (r : DWord) : (s.completeWith r).mem = s.mem := rfl
@[simp] theorem completeWith_refusedMark (s : State) (r : DWord) : (s.completeWith r).refusedMark = s.refusedMark := rfl
@[simp] theorem completeWith_everRefused (s : State) (r : DWord) : (s.completeWith r).everRefused = s.everRefused := rfl
@[simp] theorem completeWith_everIllegal (s : State) (r : DWord) : (s.completeWith r).everIllegal = s.everIllegal := rfl
@[simp] theorem completeWith_everBusy (s : State) (r : DWord) : (s.completeWith r).everBusy = s.everBusy := rfl
@[simp] theorem completeWith_disturbed (s : State) (r : DWord) : (s.completeWith r).disturbed = s.disturbed := rfl
@[simp] theorem completeWith_draws (s : State) (r : DWord) : (s.completeWith r).draws = s.draws := rfl
@[simp] theorem completeWith_events (s : State) (r : DWord) : (s.completeWith r).events = s.events := rfl
@[simp] theorem completeWith_hostReads (s : State) (r : DWord) : (s.completeWith r).hostReads = s.hostReads := rfl
@[simp] theorem completeWith_memReads (s : State) (r : DWord) : (s.completeWith r).memReads = s.memReads := rfl

/-! `State.assertReset` -/

@[simp] theorem assertReset_cfg (s : State) : s.assertReset.cfg = s.cfg := rfl
@[simp] theorem assertReset_done (s : State) : s.assertReset.done = false := rfl
@[simp] theorem assertReset_errIllegal (s : State) : s.assertReset.errIllegal = false := rfl
@[simp] theorem assertReset_errBusy (s : State) : s.assertReset.errBusy = false := rfl
@[simp] theorem assertReset_seed (s : State) : s.assertReset.seed = 0 := rfl
@[simp] theorem assertReset_base (s : State) : s.assertReset.base = 0 := rfl
@[simp] theorem assertReset_len (s : State) : s.assertReset.len = 0 := rfl
@[simp] theorem assertReset_result (s : State) : s.assertReset.result = 0 := rfl
@[simp] theorem assertReset_h (s : State) : s.assertReset.h = 0 := rfl
@[simp] theorem assertReset_idx (s : State) : s.assertReset.idx = 0 := rfl
@[simp] theorem assertReset_phase (s : State) : s.assertReset.phase = .idle := rfl
@[simp] theorem assertReset_pass (s : State) : s.assertReset.pass = .first := rfl
@[simp] theorem assertReset_lop (s : State) : s.assertReset.lop = 0 := rfl
@[simp] theorem assertReset_lbase (s : State) : s.assertReset.lbase = 0 := rfl
@[simp] theorem assertReset_llen (s : State) : s.assertReset.llen = 0 := rfl
@[simp] theorem assertReset_r1 (s : State) : s.assertReset.r1 = 0 := rfl
@[simp] theorem assertReset_mem (s : State) : s.assertReset.mem = s.mem := rfl
@[simp] theorem assertReset_refusedMark (s : State) : s.assertReset.refusedMark = false := rfl
@[simp] theorem assertReset_everRefused (s : State) : s.assertReset.everRefused = s.everRefused := rfl
@[simp] theorem assertReset_everIllegal (s : State) : s.assertReset.everIllegal = s.everIllegal := rfl
@[simp] theorem assertReset_everBusy (s : State) : s.assertReset.everBusy = s.everBusy := rfl
@[simp] theorem assertReset_disturbed (s : State) : s.assertReset.disturbed = false := rfl
@[simp] theorem assertReset_draws (s : State) : s.assertReset.draws = s.draws := rfl
@[simp] theorem assertReset_events (s : State) : s.assertReset.events = s.events := rfl
@[simp] theorem assertReset_hostReads (s : State) : s.assertReset.hostReads = s.hostReads := rfl
@[simp] theorem assertReset_memReads (s : State) : s.assertReset.memReads = s.memReads := rfl

end Sys2Proof.Machine
end

