-- ==== Sys2Proof/Laws/Steps.lean ====
section
/-! SUPPORT. What each shared operation can do, said once: cite these and do not unfold. -/

namespace Sys2Proof.Machine

theorem busy_iff (s : State) : s.busy = true ↔ s.phase ≠ .idle := by simp [State.busy]

theorem not_busy_iff (s : State) : s.busy = false ↔ s.phase = .idle := by simp [State.busy]

@[simp] theorem popEvent_busy (s : State) : s.popEvent.busy = s.busy := rfl

/-- A register access at a register's own address and width reaches it, wherever the register space is. -/
@[simp] theorem regAtBus_busAddr (c : Config) (r : Reg) : regAtBus c (busAddr c r) r.width = some r := by
  have h : regAt r.offset r.width = some r := by cases r <;> rfl
  simp [regAtBus, busAddr, h]

/-- An access that R30 does not refuse is one at a register's own address and width (R23, R51). -/
theorem regAtBus_some {c : Config} {addr width : Nat} {r : Reg} (h : regAtBus c addr width = some r) :
    addr = busAddr c r ∧ width = r.width := by
  unfold regAtBus at h
  split at h
  · cases h
  · next hc =>
    have hr := List.find?_some h
    simp only [Bool.and_eq_true, beq_iff_eq] at hr
    exact ⟨by unfold busAddr; omega, hr.2.symm⟩

/-- A legal command written to CMD (R141): rejected while busy, or accepted, or the null shortcut. -/
theorem issue_cases (s : State) (op : BitVec 3) (seed : Word) (p : Bool) :
    (s.busy = true ∧ s.issue op seed p = s.raise .commandWhileBusy) ∨
    (s.busy = false ∧ p = true ∧ s.issue op seed p = s.accept op seed) ∨
    (s.busy = false ∧ p = false ∧ s.issue op seed p = s.completeNull) := by
  unfold State.issue
  cases hb : s.busy <;> cases p <;> simp

/-- What a command's own step does (R141). An operation accepted is one of the four. -/
theorem exec_cases {i : Instr} {s t : State} (h : exec i s = .next t) :
    (s.busy = true ∧ t = s.raise .commandWhileBusy) ∨
    (s.busy = false ∧ presentOf i = true ∧ ∃ op seed, (op = 1 ∨ op = 2 ∨ op = 3 ∨ op = 4) ∧
      t = s.accept op seed) ∨
    (s.busy = false ∧ presentOf i = false ∧ t = s.completeNull) := by
  cases i with
  | mix =>
    cases h
    rcases issue_cases s 1 s.seed true with ⟨a, b⟩ | ⟨a, _, b⟩ | ⟨_, b, _⟩
    · exact .inl ⟨a, b⟩
    · exact .inr (.inl ⟨a, rfl, _, _, by decide, b⟩)
    · cases b
  | checksum16 p =>
    cases h
    rcases issue_cases s 2 s.cfg.k1 p with ⟨a, b⟩ | ⟨a, c, b⟩ | ⟨a, c, b⟩
    · exact .inl ⟨a, b⟩
    · exact .inr (.inl ⟨a, c, _, _, by decide, b⟩)
    · exact .inr (.inr ⟨a, c, b⟩)
  | checksum32 p =>
    cases h
    rcases issue_cases s 3 s.cfg.k2 p with ⟨a, b⟩ | ⟨a, c, b⟩ | ⟨a, c, b⟩
    · exact .inl ⟨a, b⟩
    · exact .inr (.inl ⟨a, c, _, _, by decide, b⟩)
    · exact .inr (.inr ⟨a, c, b⟩)
  | checksum64 p =>
    cases h
    rcases issue_cases s 4 s.cfg.k3 p with ⟨a, b⟩ | ⟨a, c, b⟩ | ⟨a, c, b⟩
    · exact .inl ⟨a, b⟩
    · exact .inr (.inl ⟨a, c, _, _, by decide, b⟩)
    · exact .inr (.inr ⟨a, c, b⟩)

/-- A command always answers a next state. -/
theorem exec_next (i : Instr) (s : State) : ∃ t, exec i s = .next t := by
  cases i <;> exact ⟨_, rfl⟩

/-- What a `CMD` write does (R141). -/
theorem hostWriteCmd_cases {w : Word} {s t : State} (h : hostWriteCmd w s = .next t) :
    (s.busy = true ∧ t = s.raise .commandWhileBusy) ∨
    (s.busy = false ∧ t = s.rejectIllegal) ∨
    (s.busy = false ∧ ∃ i, decode w = .ok i ∧ exec i s = .next t) := by
  unfold hostWriteCmd at h
  cases hb : s.busy
  · rw [hb] at h
    cases hd : decode w with
    | error e => rw [hd] at h; cases h; exact .inr (.inl ⟨rfl, rfl⟩)
    | ok i => rw [hd] at h; exact .inr (.inr ⟨rfl, i, rfl, by simpa using h⟩)
  · rw [hb] at h; cases h; exact .inl ⟨rfl, rfl⟩

theorem hostWriteCmd_next (w : Word) (s : State) : ∃ t, hostWriteCmd w s = .next t := by
  unfold hostWriteCmd
  cases s.busy
  · cases decode w with
    | error e => exact ⟨_, rfl⟩
    | ok i => exact exec_next i s
  · exact ⟨_, rfl⟩

/-- The sequencer's turn (R142 to R145): idle; stuck (R56); a round; the end of pass 1; completion. -/
theorem seqStep_cases {s t : State} (h : seqStep s = .next t) :
    (s.phase = .idle ∧ t = s) ∨
    (s.phase = .round ∧ s.nextByte = none ∧ t = s) ∨
    (s.phase = .round ∧ ∃ b, s.nextByte = some b ∧ t = s.roundWith b) ∨
    (s.phase = .final ∧ s.lop = 4 ∧ s.pass = .first ∧ t = s.finalPass1) ∨
    (s.phase = .final ∧ ¬(s.lop = 4 ∧ s.pass = .first) ∧
      ∃ r, resultOf s.lop s.r1 (fin s.h s.l32) = some r ∧ t = s.completeWith r) := by
  unfold seqStep at h
  cases hp : s.phase <;> rw [hp] at h
  · cases h; exact .inl ⟨rfl, rfl⟩
  · unfold seqRound at h
    dsimp only at h
    cases hb : s.nextByte with
    | none => rw [hb] at h; cases h; exact .inr (.inl ⟨rfl, rfl, rfl⟩)
    | some b => rw [hb] at h; cases h; exact .inr (.inr (.inl ⟨rfl, b, rfl, rfl⟩))
  · unfold seqFinal seqFinalComplete at h
    dsimp only at h
    split at h
    · next hc => cases h; exact .inr (.inr (.inr (.inl ⟨rfl, hc.1, hc.2, rfl⟩)))
    · next hc =>
      cases hr : resultOf s.lop s.r1 (fin s.h s.l32) with
      | none => rw [hr] at h; cases h
      | some r => rw [hr] at h; cases h; exact .inr (.inr (.inr (.inr ⟨rfl, hc, r, rfl, rfl⟩)))

/-- A host write to a register (R147). -/
theorem writeReg_cases {r : Reg} {v : DWord} {s t : State} (h : writeReg r v s = .next t) :
    (r = .cmd ∧ hostWriteCmd (v.setWidth 32) s = .next t) ∨
    (r = .status ∧ t = s.clearErrors (v.setWidth 32)) ∨
    (r = .seed ∧ t = { s with seed := v.setWidth 32 }) ∨
    (r = .base ∧ t = { s with base := v }) ∨
    (r = .len ∧ t = { s with len := v }) ∨
    (r = .result ∧ t = s) := by
  cases r <;> simp only [writeReg] at h
  · exact .inl ⟨rfl, h⟩
  · cases h; simp
  · cases h; simp
  · cases h; simp
  · cases h; simp
  · cases h; simp

/-- A register access, refused or not (R30, R146, R147). -/
theorem hostRead_eq (addr width : Nat) (s : State) :
    hostRead addr width s =
      .next (match regAtBus s.cfg addr width with
        | none => s.markRefused
        | some r => s.recordHostRead (s.readReg r)) := by
  unfold hostRead
  cases regAtBus s.cfg addr width <;> rfl

theorem hostWrite_cases {addr width : Nat} {v : DWord} {s t : State}
    (h : hostWrite addr width v s = .next t) :
    (regAtBus s.cfg addr width = none ∧ t = s.markRefused) ∨
    (∃ r, regAtBus s.cfg addr width = some r ∧ writeReg r v s = .next t) := by
  unfold hostWrite at h
  cases hr : regAtBus s.cfg addr width with
  | none => rw [hr] at h; cases h; exact .inl ⟨rfl, rfl⟩
  | some r => rw [hr] at h; exact .inr ⟨r, rfl, h⟩

/-- A step that answers a next state: the mark was clear, or the event is reset; and the event did it. -/
theorem step_next {s t : State} (h : step s = .next t) :
    (s.refusedMark = false ∨ s.nextEvent = .reset) ∧ stepOf s.nextEvent s.popEvent = .next t := by
  unfold step stepEvent at h
  split at h
  · cases h
  · next hc =>
    refine ⟨?_, h⟩
    cases hm : s.refusedMark
    · exact .inl rfl
    · exact .inr (by simpa [hm] using hc)

/-- With the mark clear, a step is its event. -/
theorem step_of_facing {s : State} {e : Event} (h : s.facing e) : step s = stepOf e s.popEvent := by
  obtain ⟨hm, rfl⟩ := h
  simp [step, stepEvent, hm]

/-- A step at a host write of a register is that write. -/
theorem step_of_wr {s : State} {r : Reg} {v : DWord} (h : s.facing (Event.wr s.cfg r v)) :
    step s = writeReg r v s.popEvent := by
  rw [step_of_facing h]
  simp [Event.wr, stepOf, hostWrite]

/-- A step at a host read of a register records its value. -/
theorem step_of_rd {s : State} {r : Reg} (h : s.facing (Event.rd s.cfg r)) :
    step s = .next (s.popEvent.recordHostRead (s.popEvent.readReg r)) := by
  rw [step_of_facing h]
  simp [Event.rd, stepOf, hostRead]

/-- With the host silent and the machine not refused, a step is the sequencer's turn. -/
theorem step_of_quiet {s : State} (hm : s.refusedMark = false) (he : s.events = []) :
    step s = seqStep s := by
  have hpop : s.popEvent = s := by
    have h : s.popEvent = { s with events := s.events.tail } := rfl
    rw [h, he]
    cases s
    simp_all
  rw [step_of_facing (e := .seq) ⟨hm, by simp [State.nextEvent, he]⟩, hpop]
  rfl

/-- Everything a step can do, with the condition under which it does it. -/
inductive StepEffect (s : State) : State → Prop
  | busyCommand (v : DWord) : s.busy = true → s.nextEvent = Event.wr s.cfg .cmd v →
      StepEffect s (s.popEvent.raise .commandWhileBusy)
  | illegalCommand (v : DWord) : s.busy = false → s.nextEvent = Event.wr s.cfg .cmd v →
      StepEffect s s.popEvent.rejectIllegal
  | accepted (v : DWord) (i : Instr) (op : BitVec 3) (seed : Word) : s.busy = false →
      s.nextEvent = Event.wr s.cfg .cmd v → decode (v.setWidth 32) = .ok i → presentOf i = true →
      (op = 1 ∨ op = 2 ∨ op = 3 ∨ op = 4) → StepEffect s (s.popEvent.accept op seed)
  | nullCommand (v : DWord) (i : Instr) : s.busy = false → s.nextEvent = Event.wr s.cfg .cmd v →
      decode (v.setWidth 32) = .ok i → presentOf i = false → StepEffect s s.popEvent.completeNull
  | statusWrite (v : DWord) : s.nextEvent = Event.wr s.cfg .status v →
      StepEffect s (s.popEvent.clearErrors (v.setWidth 32))
  | seedWrite (v : DWord) : s.nextEvent = Event.wr s.cfg .seed v →
      StepEffect s { s.popEvent with seed := v.setWidth 32 }
  | baseWrite (v : DWord) : s.nextEvent = Event.wr s.cfg .base v →
      StepEffect s { s.popEvent with base := v }
  | lenWrite (v : DWord) : s.nextEvent = Event.wr s.cfg .len v → StepEffect s { s.popEvent with len := v }
  | resultWrite (v : DWord) : s.nextEvent = Event.wr s.cfg .result v → StepEffect s s.popEvent
  | refusedRead (addr width : Nat) : s.nextEvent = .read addr width → StepEffect s s.popEvent.markRefused
  | refusedWrite (addr width : Nat) (v : DWord) : s.nextEvent = .write addr width v →
      StepEffect s s.popEvent.markRefused
  | regRead (r : Reg) (v : DWord) : s.nextEvent = Event.rd s.cfg r →
      StepEffect s (s.popEvent.recordHostRead v)
  | memWrite (a : DWord) (b : Byte) : s.nextEvent = .memWrite a b →
      StepEffect s (s.popEvent.hostMemWrite a b)
  | reset : s.nextEvent = .reset → StepEffect s s.popEvent.assertReset
  | idle : s.nextEvent = .seq → s.phase = .idle → StepEffect s s.popEvent
  | stuck : s.nextEvent = .seq → s.phase = .round → s.nextByte = none → StepEffect s s.popEvent
  | round (b : Byte) : s.nextEvent = .seq → s.phase = .round → s.nextByte = some b →
      StepEffect s (s.popEvent.roundWith b)
  | endPass1 : s.nextEvent = .seq → s.phase = .final → s.lop = 4 → s.pass = .first →
      StepEffect s s.popEvent.finalPass1
  | complete (r : DWord) : s.nextEvent = .seq → s.phase = .final → ¬(s.lop = 4 ∧ s.pass = .first) →
      resultOf s.lop s.r1 (fin s.h s.l32) = some r → StepEffect s (s.popEvent.completeWith r)

/-- A step that answers a next state had one of these effects: the one inversion of `step`. -/
theorem step_effect {s t : State} (h : step s = .next t) : StepEffect s t := by
  obtain ⟨_, h⟩ := step_next h
  cases he : s.nextEvent with
  | read a w =>
    rw [he] at h
    simp only [stepOf, hostRead_eq] at h
    cases hr : regAtBus s.popEvent.cfg a w with
    | none => rw [hr] at h; cases h; exact .refusedRead a w he
    | some r =>
      rw [hr] at h
      cases h
      obtain ⟨h1, h2⟩ := regAtBus_some hr
      exact .regRead r _ (by rw [he, h1, h2]; rfl)
  | write a w v =>
    rw [he] at h
    rcases hostWrite_cases h with ⟨_, rfl⟩ | ⟨r, hr, h⟩
    · exact .refusedWrite a w v he
    · obtain ⟨h1, h2⟩ := regAtBus_some hr
      have he' : s.nextEvent = Event.wr s.cfg r v := by rw [he, h1, h2]; rfl
      rcases writeReg_cases h with
        ⟨rfl, h⟩ | ⟨rfl, rfl⟩ | ⟨rfl, rfl⟩ | ⟨rfl, rfl⟩ | ⟨rfl, rfl⟩ | ⟨rfl, rfl⟩
      · rcases hostWriteCmd_cases h with ⟨hb, rfl⟩ | ⟨hb, rfl⟩ | ⟨hb, i, hd, h⟩
        · exact .busyCommand v hb he'
        · exact .illegalCommand v hb he'
        · rcases exec_cases h with ⟨hb', rfl⟩ | ⟨_, hp, op, seed, hop, rfl⟩ | ⟨_, hp, rfl⟩
          · rw [hb] at hb'; cases hb'
          · exact .accepted v i op seed hb he' hd hp hop
          · exact .nullCommand v i hb he' hd hp
      · exact .statusWrite v he'
      · exact .seedWrite v he'
      · exact .baseWrite v he'
      · exact .lenWrite v he'
      · exact .resultWrite v he'
  | memWrite a b => rw [he] at h; cases h; exact .memWrite a b he
  | seq =>
    rw [he] at h
    rcases seqStep_cases h with ⟨hp, rfl⟩ | ⟨hp, hb, rfl⟩ | ⟨hp, b, hb, rfl⟩ | ⟨hp, h1, h2, rfl⟩ |
      ⟨hp, hn, r, hr, rfl⟩
    · exact .idle he hp
    · exact .stuck he hp hb
    · exact .round b he hp hb
    · exact .endPass1 he hp h1 h2
    · exact .complete r he hp hn hr
  | reset => rw [he] at h; cases h; exact .reset he

@[simp] theorem runSteps_zero (s : State) : runSteps 0 s = .next s := rfl

theorem runSteps_succ (k : Nat) (s : State) :
    runSteps (k + 1) s =
      match step s with
      | .next t => runSteps k t
      | .fault r => .fault r
      | .refused r => .refused r := rfl

/-- One step, then the rest. -/
theorem runSteps_of_step {k : Nat} {s t : State} (h : step s = .next t) :
    runSteps (k + 1) s = runSteps k t := by
  rw [runSteps_succ, h]

/-- A run of `a` steps, then `b` more. -/
theorem runSteps_add {a b : Nat} {s t : State} (h : runSteps a s = .next t) :
    runSteps (a + b) s = runSteps b t := by
  induction a generalizing s with
  | zero => cases h; simp
  | succ a ih =>
    rw [show a + 1 + b = (a + b) + 1 by omega, runSteps_succ]
    rw [runSteps_succ] at h
    cases hs : step s with
    | next u => rw [hs] at h; exact ih h
    | fault r => rw [hs] at h; cases h
    | refused r => rw [hs] at h; cases h

/-- A write outside a buffer leaves the bytes of the buffer as they are. -/
theorem holdsBuffer_write {m : Memory} {base len a : DWord} {b : Byte} {d : List Byte}
    (ho : outsideBuffer base len a) (hl : d.length = len.toNat) (h : holdsBuffer m base d) :
    holdsBuffer (m.write a b) base d := by
  intro i hi
  have hlt : BitVec.ofNat 64 i < len := by
    have := len.isLt
    rw [BitVec.lt_def, BitVec.toNat_ofNat, Nat.mod_eq_of_lt (by omega)]
    omega
  rw [Memory.read_write_other m a _ b (ho _ hlt).symm]
  exact h i hi

/-- The model's test for the running command's buffer is the one R68 gives. -/
theorem inBuffer_eq_false_iff (s : State) (a : DWord) :
    s.inBuffer a = false ↔ outsideBuffer s.lbase s.llen a := by
  have hback : byteAddr s.lbase (a - s.lbase) = a := by simp [byteAddr]
  constructor
  · rintro h i hi rfl
    have : byteAddr s.lbase i - s.lbase = i := by simp [byteAddr, BitVec.add_comm]
    simp [State.inBuffer, this, hi] at h
  · intro h
    by_contra hc
    exact h (a - s.lbase) (by simpa [State.inBuffer] using hc) hback.symm

/-- A host write outside the running command's buffer changes memory and nothing else. -/
theorem hostMemWrite_outside {s : State} {a : DWord} (b : Byte)
    (ho : outsideBuffer s.lbase s.llen a) : s.hostMemWrite a b = { s with mem := s.mem.write a b } := by
  simp [State.hostMemWrite, (inBuffer_eq_false_iff s a).2 ho]

/-- The host's run, where the first step answers a next state. -/
theorem run_of_step (M : Host.Core) (k : Nat) (s t : M.State) (h : M.step s = .next t) :
    M.run (k + 1) s = M.run k t := by
  rw [Host.Core.run.eq_2, h]

theorem run_of_fault (M : Host.Core) (k : Nat) (s : M.State) (r : M.Fault) (h : M.step s = .fault r) :
    M.run (k + 1) s = .fault r := by
  rw [Host.Core.run.eq_2, h]

theorem run_of_refused (M : Host.Core) (k : Nat) (s : M.State) (r : M.Refusal)
    (h : M.step s = .refused r) : M.run (k + 1) s = .refused r := by
  rw [Host.Core.run.eq_2, h]

/-- `runSteps` is the host's run of the machine. -/
theorem runSteps_eq_run (k : Nat) (s : State) : runSteps k s = Host.Core.run Sys2Proof.core k s := by
  induction k generalizing s with
  | zero => rfl
  | succ k ih =>
    rw [runSteps_succ]
    cases h : step s with
    | next t => exact (ih t).trans (run_of_step Sys2Proof.core k s t h).symm
    | fault r => exact (run_of_fault Sys2Proof.core k s r h).symm
    | refused r => exact (run_of_refused Sys2Proof.core k s r h).symm

end Sys2Proof.Machine
end

