-- ==== Sys2Proof/Tests/Slice0.lean ====
section
/-! SUPPORT. Small tests. Expected values are the spec's own: 95_test_vectors.md, or its rules by hand.
The theorems named `witness_…` show states and operands that meet the hypotheses of each statement. -/

namespace Sys2Proof.Tests

open Sys2Proof Sys2Proof.Machine

/-! ## The check on command fields refuses each kind of illegal word (R74, R76) -/

theorem test_wellformed_refuses_reserved_bits : (⟨1, true, 1⟩ : Command).wellFormed = false := by decide
theorem test_wellformed_refuses_reserved_op :
    (⟨0, true, 0⟩ : Command).wellFormed = false ∧ (⟨0, true, 5⟩ : Command).wellFormed = false ∧
    (⟨0, false, 6⟩ : Command).wellFormed = false ∧ (⟨0, true, 7⟩ : Command).wellFormed = false := by
  decide
theorem test_wellformed_refuses_mix_absent : (⟨0, false, 1⟩ : Command).wellFormed = false := by decide

/-! ## Decoding: words written out from R71, R72 and R78, and the vectors E1 to E12 -/

theorem test_decode_mix : decode 0b00000000000000000000000000001001#32 = .ok .mix := by decide
theorem test_decode_checksum16 :
    decode 0b00000000000000000000000000001010#32 = .ok (.checksum16 true) ∧
    decode 0b00000000000000000000000000000010#32 = .ok (.checksum16 false) := by decide
theorem test_decode_checksum32 :
    decode 0b00000000000000000000000000001011#32 = .ok (.checksum32 true) ∧
    decode 0b00000000000000000000000000000011#32 = .ok (.checksum32 false) := by decide
theorem test_decode_checksum64 :
    decode 0b00000000000000000000000000001100#32 = .ok (.checksum64 true) ∧
    decode 0b00000000000000000000000000000100#32 = .ok (.checksum64 false) := by decide
theorem test_decode_illegal :
    decode 0x00000000 = .error .reservedOp ∧ decode 0x00000001 = .error .mixAbsent ∧
    decode 0x00000008 = .error .reservedOp ∧ decode 0x0000000D = .error .reservedOp ∧
    decode 0x0000000E = .error .reservedOp ∧ decode 0x0000000F = .error .reservedOp ∧
    decode 0x00000019 = .error .reservedBits ∧ decode 0x8000000C = .error .reservedBits ∧
    decode 0xFFFFFFFF = .error .reservedBits := by decide
theorem test_encode_words :
    encode .mix = 0x00000009 ∧ encode (.checksum16 true) = 0x0000000A ∧
    encode (.checksum16 false) = 0x00000002 ∧ encode (.checksum32 true) = 0x0000000B ∧
    encode (.checksum32 false) = 0x00000003 ∧ encode (.checksum64 true) = 0x0000000C ∧
    encode (.checksum64 false) = 0x00000004 := by decide
theorem test_decode_table_word :
    decodeTableWord 32 0x9 = some .mix ∧ decodeTableWord 32 0x2 = some (.checksum16 false) ∧
    decodeTableWord 32 0x1 = none ∧ decodeTableWord 40 0x9 = none := by decide

/-! ## States for the tests -/

/-- A platform with the register space at 0x4000 and the document's seeds. -/
def plat : Config := { Config.default with regBase := 0x4000 }

/-- "abc" at 0x1000. -/
def abcMem : Memory := [(0x1000, 0x61), (0x1001, 0x62), (0x1002, 0x63)]

/-- Idle after reset, the operands of P1 written. -/
def idleAbc : State := { State.resetFor plat abcMem with base := 0x1000, len := 3, seed := 0xDEADBEEF }

/-- Another machine with "abc" elsewhere and the leftovers of an earlier CHECKSUM64. -/
def usedAbc : State :=
  { State.resetFor plat [(0x7, 0x61), (0x8, 0x62), (0x9, 0x63)] with
    base := 0x7, len := 3, seed := 0xDEADBEEF, done := true, result := 5, h := 1, r1 := 2, lop := 4 }

/-- CHECKSUM16 of "abc", accepted (trace T2 before its first row). -/
def round0 : State :=
  { idleAbc with phase := .round, lop := 2, lbase := 0x1000, llen := 3, h := 0x19D699A5 }

/-- The same before its last round (trace T2, row 2). -/
def round2 : State := { round0 with idx := 2, h := 0x2F9FC075 }

/-- A state in FINAL for this operation, pass and hash, the length being 3. -/
def finalOf (op : BitVec 3) (p : Pass) (h : Word) : State :=
  { idleAbc with phase := .final, lop := op, pass := p, h := h, idx := 3, lbase := 0x1000, llen := 3 }

/-- CHECKSUM64 of an empty buffer at the end of its first pass (trace T4). -/
def emptyPass1 : State :=
  { idleAbc with phase := .final, lop := 4, h := 0x3FFEFFFF, lbase := 0x2000 }

/-- A ROUND state whose read the memory does not admit (W2). -/
def stuck : State := { round0 with lbase := 0x9000 }

/-- The host broke its duty on the running buffer. -/
def disturbedRound : State := { round0 with disturbed := true }

/-- `s` with this event next. -/
def withEvent (s : State) (e : Event) : State := { s with events := [e] }

/-- What a field of the outcome's next state is. -/
def after {α : Type} (f : State → α) : Host.Outcome State Fault Refusal → Option α
  | .next t => some (f t)
  | _ => none

/-! ## The mixing functions: vectors of 95_test_vectors.md sections 2.1 and 2.3, trace T1 -/

theorem test_mix_vectors :
    mix 1 [] = 0x00048009 ∧ mix 0xFFFFFFFF [] = 0xFFE40008 ∧ mix 0 [0x00] = 0x124E249C ∧
    mix 0 [0x01] = 0x00008001 ∧ mix 0 [0xFF] = 0xDA5CB472 ∧ mix 0 [0x80] = 0x39C47364 ∧
    mix 0 [0x31, 0x36, 0x36, 0x36, 0x37] = 0x7F46B73F ∧
    mix 0 [0x35, 0x33, 0x38, 0x32, 0x37] = 0x7F46B73F ∧
    mix 0xDEADBEEF [0x61, 0x62] = 0xC8592E0B ∧ mix 0xDEADBEEF [0x62, 0x61] = 0x14115B0A := by decide
theorem test_checksum16_vectors :
    checksum16 plat (some []) = -11321 ∧ checksum16 plat (some [0x61, 0x62, 0x63]) = 11611 ∧
    checksum16 plat (some [0x61]) = -31197 ∧ checksum16 plat none = 0 := by decide
theorem test_checksum32_vectors :
    checksum32 plat (some []) = 421915978 ∧ checksum32 plat (some [0x61]) = 1110482828 ∧
    checksum32 plat (some [0x61, 0x62, 0x63]) = -470028264 ∧ checksum32 plat none = 0 := by decide
theorem test_checksum64_vectors :
    checksum64 plat (some []) = -4574248572204083670 ∧
    checksum64 plat (some [0x61, 0x62, 0x63]) = 4281437892135076209 ∧ checksum64 plat none = 0 := by
  decide

/-! ## One step of each command -/

/-- The `CMD` write of MIX latches the operands and takes the seed from SEED (R110, R141). -/
theorem test_mix_step :
    after (fun t => (t.h, t.llen, t.phase, t.done, t.busy))
      (step (withEvent idleAbc (Event.issue plat .mix))) =
      some (0xDEADBEEF, 3, .round, false, true) := by decide
/-- Right after reset CHECKSUM16 goes straight to FINAL (W3), and it completes as trace T2 says. -/
theorem test_checksum16_step :
    after (fun t => (t.h, t.phase))
      (step (withEvent (State.resetFor plat []) (Event.issue plat (.checksum16 true)))) =
      some (0x19D699A5, .final) ∧
    after (fun t => (t.h, t.result, t.phase, t.done)) (step (finalOf 2 .first 0xAC199886)) =
      some (0xED23C078, 0x2D5B, .idle, true) := by decide
/-- CHECKSUM32.NULL with a nonzero LEN is done at once with 0 (N3). -/
theorem test_checksum32_step :
    after (fun t => (t.result, t.done, t.busy, t.memReads))
      (step (withEvent { idleAbc with result := 7 } (Event.issue plat (.checksum32 false)))) =
      some (0, true, false, []) := by decide
/-- The end of pass 1 of CHECKSUM64 on an empty buffer (T4): `r1`, and the seed of pass 2. -/
theorem test_checksum64_step :
    after (fun t => (t.r1, t.h, t.pass, t.phase)) (step emptyPass1) =
      some (0xC0850128, 0xAF26E6E1, .second, .final) := by decide

/-- Trace T2, rows 0 and 2: a round that is not the last, and the last. -/
theorem test_round_steps :
    after (fun t => (t.h, t.idx, t.phase)) (step round0) = some (0x75EE4CDF, 1, .round) ∧
    after (fun t => (t.h, t.idx, t.phase, t.memReads)) (step round2) =
      some (0xAC199886, 3, .final, [0x1002]) := by decide
/-- The buffer address wraps at the top of the address space (W1). -/
theorem test_address_wraps : byteAddr 0xFFFFFFFFFFFFFFFF 1 = 0 := by decide
/-- S-1 and S-2: write 1 to clear, BUSY and DONE read only. -/
theorem test_status_write :
    after (fun t => t.status) (step (withEvent { idleAbc with done := true, errIllegal := true, errBusy := true }
      (Event.wr plat .status 0x4))) = some 0x0000000A ∧
    after (fun t => t.status) (step (withEvent { idleAbc with done := true, errBusy := true }
      (Event.wr plat .status 0xFFFFFFFF))) = some 0x00000002 := by decide
/-- S-7 and S-4: STATUS and CMD read after reset. -/
theorem test_reads_after_reset :
    after (fun t => t.hostReads) (step (withEvent (State.resetFor plat []) (Event.rd plat .status))) =
      some [0] ∧
    after (fun t => t.hostReads) (step (withEvent idleAbc (Event.rd plat .cmd))) = some [0] := by decide
/-- The command handed over as a table word runs as the first instruction after reset. -/
theorem test_with_fetch_word :
    after (fun t => (t.lop, t.phase, t.h)) (step (State.reset.withFetchWord 32 0x0000000B)) =
      some (3, .final, 0x2E824E35) := by decide

/-! ## Witnesses: the hypotheses of each statement are met, clause by clause -/

theorem witness_LegalWordsAreExactlySeven :
    legal 0x00000001 = false ∧ legal 0xFFFFFFFF = false ∧ legal 0x0000000C = true ∧
      idleAbc.busy = false := by decide
theorem witness_DecodeFollowsMatchAndMask :
    decode 0x0000000C = .ok (.checksum64 true) ∧ decode 0x00000004 = .ok (.checksum64 false) := by decide
theorem witness_StepRunsTheDecodedCommand :
    (withEvent idleAbc (Event.wr plat .cmd 0xB)).facing (Event.wr idleAbc.cfg .cmd 0xB) ∧
      decode ((0xB : DWord).setWidth 32) = .ok (.checksum32 true) := ⟨⟨rfl, rfl⟩, by decide⟩
theorem witness_CmdWriteFollowsAcceptanceRule :
    (withEvent round0 (Event.wr plat .cmd 0x1)).facing (Event.wr round0.cfg .cmd 0x1) ∧
    (withEvent idleAbc (Event.wr plat .cmd 0x19)).facing (Event.wr idleAbc.cfg .cmd 0x19) ∧
    (withEvent idleAbc (Event.wr plat .cmd 0x4)).facing (Event.wr idleAbc.cfg .cmd 0x4) ∧
    (withEvent idleAbc (Event.wr plat .cmd 0x9)).facing (Event.wr idleAbc.cfg .cmd 0x9) ∧
    (withEvent idleAbc (Event.wr plat .cmd 0xC)).facing (Event.wr idleAbc.cfg .cmd 0xC) :=
  ⟨⟨rfl, rfl⟩, ⟨rfl, rfl⟩, ⟨rfl, rfl⟩, ⟨rfl, rfl⟩, ⟨rfl, rfl⟩⟩
theorem witness_IllegalCommandEffect :
    (withEvent idleAbc (Event.wr plat .cmd 0x1)).facing (Event.wr idleAbc.cfg .cmd 0x1) ∧
      (withEvent idleAbc (Event.wr plat .cmd 0x1)).busy = false ∧
      legal ((0x1 : DWord).setWidth 32) = false := ⟨⟨rfl, rfl⟩, by decide, by decide⟩
theorem witness_CommandWhileBusyEffect :
    (withEvent round0 (Event.wr plat .cmd 0xA)).facing (Event.wr round0.cfg .cmd 0xA) ∧
      (withEvent round0 (Event.wr plat .cmd 0xA)).busy = true := ⟨⟨rfl, rfl⟩, by decide⟩
theorem witness_EveryCommandIsTurnedAwayWhileBusy : round0.busy = true := by decide
theorem witness_MixIsAccepted : idleAbc.busy = false ∧ (State.resetFor plat []).busy = false := by decide
theorem witness_PresentChecksumIsAccepted : idleAbc.busy = false ∧ idleAbc.len ≠ 0 := by decide
theorem witness_NullChecksumCompletesAtOnce : usedAbc.busy = false ∧ usedAbc.result ≠ 0 := by decide
theorem witness_CommandFrame :
    (∃ t, exec .mix idleAbc = .next t) ∧ (∃ t, exec (.checksum16 false) usedAbc = .next t) ∧
    (∃ t, exec (.checksum32 true) round0 = .next t) ∧ (∃ t, exec (.checksum64 true) idleAbc = .next t) :=
  ⟨⟨_, rfl⟩, ⟨_, rfl⟩, ⟨_, rfl⟩, ⟨_, rfl⟩⟩
theorem witness_IdleSequencerHasNoStep :
    idleAbc.facing .seq ∧ (withEvent idleAbc .seq).facing .seq ∧ idleAbc.phase = .idle ∧
      (∃ t, step (withEvent idleAbc (Event.wr plat .len 1)) = .next t ∧ t.phase = .idle) ∧
      ∃ t, step (withEvent idleAbc (Event.issue plat .mix)) = .next t ∧ t.phase = .round :=
  ⟨⟨rfl, rfl⟩, ⟨rfl, rfl⟩, rfl, ⟨_, rfl, rfl⟩, ⟨_, rfl, rfl⟩⟩
theorem witness_RoundStep :
    (round0.facing .seq ∧ round0.phase = .round ∧ round0.disturbed = false ∧
      round0.mem.read (round0.lbase + round0.idx) = some 0x61) ∧
    (round2.idx + 1 = round2.llen ∧ round2.mem.read (round2.lbase + round2.idx) = some 0x63) ∧
    (stuck.facing .seq ∧ stuck.phase = .round ∧ stuck.disturbed = false ∧
      stuck.mem.read (stuck.lbase + stuck.idx) = none) :=
  ⟨⟨⟨rfl, rfl⟩, by decide⟩, by decide, ⟨rfl, rfl⟩, by decide⟩
theorem witness_DisturbedRoundStepUsesFreeByte :
    disturbedRound.facing .seq ∧ disturbedRound.phase = .round ∧ disturbedRound.disturbed = true ∧
      disturbedRound.mem.read (disturbedRound.lbase + disturbedRound.idx) = some 0x61 :=
  ⟨⟨rfl, rfl⟩, by decide⟩
theorem witness_EndOfPassOneStep :
    (emptyPass1.facing .seq ∧ emptyPass1.phase = .final ∧ emptyPass1.lop = 4 ∧
      emptyPass1.pass = .first ∧ emptyPass1.llen = 0) ∧
    (finalOf 4 .first 1).facing .seq ∧ (finalOf 4 .first 1).llen ≠ 0 :=
  ⟨⟨⟨rfl, rfl⟩, by decide⟩, ⟨rfl, rfl⟩, by decide⟩
theorem witness_CompletionStep :
    (finalOf 1 .first 1).facing .seq ∧ (finalOf 2 .first 1).facing .seq ∧
    (finalOf 3 .first 1).facing .seq ∧ (finalOf 4 .second 1).facing .seq ∧
    (finalOf 4 .second 1).phase = .final ∧
    ¬((finalOf 4 .second 1).lop = 4 ∧ (finalOf 4 .second 1).pass = .first) ∧
    ¬((finalOf 1 .first 1).lop = 4 ∧ (finalOf 1 .first 1).pass = .first) :=
  ⟨⟨rfl, rfl⟩, ⟨rfl, rfl⟩, ⟨rfl, rfl⟩, ⟨rfl, rfl⟩, rfl, by decide, by decide⟩
theorem witness_UnassignedOperationFaults :
    (finalOf 0 .first 1).facing .seq ∧ (finalOf 7 .first 1).facing .seq ∧
      (finalOf 0 .first 1).phase = .final ∧ (finalOf 7 .first 1).lop = 7 :=
  ⟨⟨rfl, rfl⟩, ⟨rfl, rfl⟩, rfl, rfl⟩
/-- A running state that meets the invariant. -/
theorem round0_inv : round0.Inv := by constructor <;> decide
theorem idleAbc_inv : idleAbc.Inv := by constructor <;> decide
theorem finalPass2_inv : (finalOf 4 .second 1).Inv := by constructor <;> decide
theorem stuck_inv : stuck.Inv := by constructor <;> decide
theorem witness_SequencerRaisesNothing :
    (round0.Inv ∧ round0.facing .seq) ∧ (stuck.Inv ∧ stuck.facing .seq ∧ stuck.phase = .round ∧
      stuck.mem.read (stuck.lbase + stuck.idx) = none) :=
  ⟨⟨round0_inv, rfl, rfl⟩, stuck_inv, ⟨rfl, rfl⟩, rfl, by decide⟩
theorem witness_StuckSequencerStaysStuck :
    stuck.phase = .round ∧ stuck.mem.read (stuck.lbase + stuck.idx) = none ∧ stuck.events = [] ∧
      stuck.refusedMark = false ∧ (∃ t, runSteps 2 stuck = .next t) ∧
      (∀ e ∈ (withEvent stuck (.memWrite 0x9000 1)).events, e ≠ .reset) ∧
      (∃ t, runSteps 1 (withEvent stuck (.memWrite 0x9000 1)) = .next t) ∧
      stuck.facing .seq ∧ (withEvent stuck .reset).nextEvent = .reset :=
  ⟨by decide, by decide, by decide, by decide, ⟨_, rfl⟩, by decide, ⟨_, rfl⟩, ⟨rfl, rfl⟩, rfl⟩
theorem witness_UnlistedAccessIsRefused :
    regAtBus plat 0x400C 32 = none ∧ regAtBus plat 0x4028 64 = none ∧ regAtBus plat 0x3FFF 32 = none ∧
    regAtBus plat 0x4010 8 = none ∧ regAtBus plat 0x4004 64 = none ∧ regAtBus plat 0x4020 64 ≠ none ∧
    (withEvent idleAbc (.read 0x400C 32)).facing (.read 0x400C 32) ∧
    (withEvent idleAbc (.write 0x4010 8 0)).facing (.write 0x4010 8 0) :=
  ⟨by decide, by decide, by decide, by decide, by decide, by decide, ⟨rfl, rfl⟩, ⟨rfl, rfl⟩⟩
theorem witness_RefusedStateHasOnlyReset :
    ({ round0 with refusedMark := true }).refusedMark = true ∧
      ({ round0 with refusedMark := true }).nextEvent ≠ .reset ∧
      (withEvent { round0 with refusedMark := true } .reset).nextEvent = .reset := by decide
theorem witness_HostReadReturnsRegister :
    (∀ r ∈ allRegs, (withEvent round0 (Event.rd plat r)).facing (Event.rd round0.cfg r)) ∧
      (withEvent round0 (.read 0x400C 32)).facing (.read 0x400C 32) ∧
      regAtBus plat 0x400C 32 = none := ⟨fun _ _ => ⟨rfl, rfl⟩, ⟨rfl, rfl⟩, by decide⟩
theorem witness_HostWriteEffects :
    (∀ r ∈ allRegs, (withEvent round0 (Event.wr plat r 5)).facing (Event.wr round0.cfg r 5)) ∧
      (withEvent round0 (.write 0x4028 64 5)).facing (.write 0x4028 64 5) ∧
      regAtBus plat 0x4028 64 = none := ⟨fun _ _ => ⟨rfl, rfl⟩, ⟨rfl, rfl⟩, by decide⟩
theorem witness_HostMemoryWriteFrame :
    (withEvent round0 (.memWrite 0x1001 9)).facing (.memWrite 0x1001 9) ∧
      (withEvent round0 (.memWrite 0x1003 9)).facing (.memWrite 0x1003 9) := ⟨⟨rfl, rfl⟩, ⟨rfl, rfl⟩⟩
theorem witness_ErrorBitsAreSticky :
    (∃ t, step { round0 with errIllegal := true, errBusy := true } = .next t) ∧
      ({ round0 with errIllegal := true, errBusy := true }).nextEvent ≠ .reset ∧
      (∃ t, step (withEvent { round0 with errIllegal := true } (Event.wr plat .status 4)) = .next t) ∧
      (∃ t, step (withEvent { round0 with errBusy := true } (Event.wr plat .status 8)) = .next t) ∧
      (withEvent { round0 with errIllegal := true } .reset).nextEvent = .reset :=
  ⟨⟨_, rfl⟩, by decide, ⟨_, rfl⟩, ⟨_, rfl⟩, rfl⟩
theorem witness_MisuseIsNeverForgotten :
    (∃ t, step (withEvent { round0 with everIllegal := true } (Event.wr plat .cmd 9)) = .next t ∧
      t.errBusy = true) ∧
    (∃ t, step (withEvent idleAbc (Event.wr plat .cmd 0)) = .next t ∧ t.errIllegal = true) ∧
    (∃ t, step (withEvent idleAbc (.read 0x400C 32)) = .next t ∧ t.refusedMark = true) ∧
    ∃ t, step (withEvent { round0 with everRefused := true, everBusy := true } .reset) = .next t :=
  ⟨⟨_, rfl, rfl⟩, ⟨_, rfl, rfl⟩, ⟨_, rfl, rfl⟩, ⟨_, rfl⟩⟩
/-- A latched length with another upper half, at a ROUND and at a FINAL step. -/
theorem witness_OnlyLowLengthBitsEnter :
    (round2.facing .seq ∧ ((0x700000003 : DWord).setWidth 32 : Word) = round2.llen.setWidth 32 ∧
      ∃ t, step round2 = .next t) ∧
    ((finalOf 4 .first 1).facing .seq ∧
      ((0x100000003 : DWord).setWidth 32 : Word) = (finalOf 4 .first 1).llen.setWidth 32 ∧
      ∃ t, step (finalOf 4 .first 1) = .next t) :=
  ⟨⟨⟨rfl, rfl⟩, by decide, ⟨_, rfl⟩⟩, ⟨rfl, rfl⟩, by decide, ⟨_, rfl⟩⟩
theorem witness_ResultLayout :
    presentOf (.checksum16 false) = false ∧ presentOf (.checksum32 false) = false ∧
      presentOf (.checksum64 false) = false ∧ usedAbc.busy = false := by decide

theorem idleAbc_ready : idleAbc.ready := ⟨rfl, rfl, rfl⟩
theorem usedAbc_ready : usedAbc.ready := ⟨rfl, rfl, rfl⟩
theorem idleAbc_holds : holdsBuffer idleAbc.mem idleAbc.base [0x61, 0x62, 0x63] := by
  unfold holdsBuffer; decide
theorem usedAbc_holds : holdsBuffer usedAbc.mem usedAbc.base [0x61, 0x62, 0x63] := by
  unfold holdsBuffer; decide
/-- A buffer across the top of the address space (W1), and an empty one. -/
theorem wrap_holds :
    holdsBuffer [(0, 0x62), (0xFFFFFFFFFFFFFFFF, 0x61)] 0xFFFFFFFFFFFFFFFF [0x61, 0x62] ∧
      holdsBuffer [] 0 [] := by
  unfold holdsBuffer; decide
theorem witness_MixRunsToItsResult :
    idleAbc.ready ∧ [0x61, 0x62, 0x63].length = idleAbc.len.toNat ∧
      holdsBuffer idleAbc.mem idleAbc.base [0x61, 0x62, 0x63] := ⟨idleAbc_ready, rfl, idleAbc_holds⟩
theorem witness_Checksum16RunsToItsResult :
    usedAbc.ready ∧ [0x61, 0x62, 0x63].length = usedAbc.len.toNat ∧
      holdsBuffer usedAbc.mem usedAbc.base [0x61, 0x62, 0x63] := ⟨usedAbc_ready, rfl, usedAbc_holds⟩
theorem witness_Checksum32RunsToItsResult :
    (State.resetFor plat []).ready ∧ ([] : List Byte).length = (State.resetFor plat []).len.toNat ∧
      holdsBuffer (State.resetFor plat []).mem (State.resetFor plat []).base [] :=
  ⟨⟨rfl, rfl, rfl⟩, rfl, wrap_holds.2⟩
theorem witness_Checksum64RunsToItsResult :
    idleAbc.ready ∧ [0x61, 0x62, 0x63].length = idleAbc.len.toNat ∧
      holdsBuffer idleAbc.mem idleAbc.base [0x61, 0x62, 0x63] := ⟨idleAbc_ready, rfl, idleAbc_holds⟩
theorem witness_HashAfterEachRound :
    round0.phase = .round ∧ round0.idx = 0 ∧ round0.disturbed = false ∧ round0.refusedMark = false ∧
      round0.events = [] ∧ 0 < [0x61, 0x62, 0x63].length ∧ [0x61, 0x62, 0x63].length = round0.llen.toNat ∧
      holdsBuffer round0.mem round0.lbase [0x61, 0x62, 0x63] ∧ 3 ≤ [0x61, 0x62, 0x63].length :=
  ⟨rfl, rfl, rfl, rfl, rfl, by decide, rfl, idleAbc_holds, by decide⟩
theorem witness_SequencerStepCounts :
    idleAbc.everRefused = false ∧ idleAbc.neverMisused ∧ idleAbc.ready ∧ presentOf .mix = true ∧ presentOf (.checksum64 false) = false ∧
      [0x61, 0x62, 0x63].length = idleAbc.len.toNat ∧
      holdsBuffer idleAbc.mem idleAbc.base [0x61, 0x62, 0x63] :=
  ⟨rfl, ⟨rfl, rfl⟩, idleAbc_ready, rfl, rfl, rfl, idleAbc_holds⟩
/-- A schedule for MIX of "abc" that writes LEN, CMD and memory outside the buffer, and polls (W4, P3). -/
def busyHost : List Event :=
  [.seq, Event.wr plat .len 100, .seq, Event.issue plat (.checksum16 true), .memWrite 0x1003 9, .seq,
    Event.rd plat .status]

theorem busyHost_scheduled : idleAbc.scheduleFor .mix busyHost := by
  have hout : outsideBuffer idleAbc.base idleAbc.len 0x1003 :=
    (inBuffer_eq_false_iff round0 0x1003).1 (by decide)
  refine ⟨?_, by decide⟩
  intro e he
  simp only [busyHost, List.mem_cons, List.not_mem_nil, or_false] at he
  rcases he with rfl | rfl | rfl | rfl | rfl | rfl | rfl
  · exact .inl rfl
  · exact .inr (.inl (by show (regAtBus plat 0x4018 64).isSome = true; decide))
  · exact .inl rfl
  · exact .inr (.inl (by show (regAtBus plat 0x4000 32).isSome = true; decide))
  · exact .inr (.inr ⟨_, _, rfl, hout⟩)
  · exact .inl rfl
  · exact .inr (.inl (by show (regAtBus plat 0x4004 32).isSome = true; decide))

/-- `usedAbc` on a platform that places the register space elsewhere, with a silent host. -/
def movedAbc : State := { usedAbc with cfg := { plat with regBase := 0x8000 } }

theorem silentHost_scheduled : movedAbc.scheduleFor .mix [.seq, .seq, .seq] :=
  ⟨fun e he => .inl (by simpa using he), by decide⟩

theorem witness_EveryScheduleGivesTheResult :
    idleAbc.busy = false ∧ idleAbc.refusedMark = false ∧ presentOf .mix = true ∧
      [0x61, 0x62, 0x63].length = idleAbc.len.toNat ∧
      holdsBuffer idleAbc.mem idleAbc.base [0x61, 0x62, 0x63] ∧ idleAbc.scheduleFor .mix busyHost :=
  ⟨rfl, rfl, rfl, rfl, idleAbc_holds, busyHost_scheduled⟩
theorem witness_ResultDependsOnBufferAlone :
    (idleAbc.busy = false ∧ movedAbc.busy = false ∧ idleAbc.cfg.k1 = movedAbc.cfg.k1 ∧
      idleAbc.cfg.k2 = movedAbc.cfg.k2 ∧ idleAbc.cfg.k3 = movedAbc.cfg.k3 ∧
      idleAbc.cfg.k4 = movedAbc.cfg.k4) ∧ idleAbc.cfg.regBase ≠ movedAbc.cfg.regBase ∧
    (presentOf .mix = true ∧ idleAbc.seed = movedAbc.seed ∧ idleAbc.refusedMark = false ∧
      movedAbc.refusedMark = false ∧ [0x61, 0x62, 0x63].length = idleAbc.len.toNat ∧
      [0x61, 0x62, 0x63].length = movedAbc.len.toNat ∧
      holdsBuffer idleAbc.mem idleAbc.base [0x61, 0x62, 0x63] ∧
      holdsBuffer movedAbc.mem movedAbc.base [0x61, 0x62, 0x63] ∧
      idleAbc.scheduleFor .mix busyHost ∧ movedAbc.scheduleFor .mix [.seq, .seq, .seq]) ∧
    presentOf (.checksum32 false) = false :=
  ⟨⟨rfl, rfl, rfl, rfl, rfl, rfl⟩, by decide, ⟨rfl, rfl, rfl, rfl, rfl, rfl, idleAbc_holds, usedAbc_holds,
    busyHost_scheduled, silentHost_scheduled⟩, rfl⟩
theorem witness_StepKeepsInvariant :
    round0.Inv ∧ (∃ t, step round0 = .next t) ∧ (finalOf 4 .second 1).Inv ∧
      ∃ t, step (finalOf 4 .second 1) = .next t := ⟨round0_inv, ⟨_, rfl⟩, finalPass2_inv, ⟨_, rfl⟩⟩
theorem witness_InvariantAtReset : abcMem.wf = true := by decide
theorem witness_UnrefusedMachineGoesOn : idleAbc.Inv ∧ idleAbc.refusedMark = false := ⟨idleAbc_inv, rfl⟩
theorem witness_ResetLeavesResetValues :
    (withEvent round0 .reset).nextEvent = .reset ∧
      (withEvent { stuck with refusedMark := true } .reset).nextEvent = .reset := by decide
theorem witness_ConfigurationNeverChanges :
    ∃ t, step (withEvent idleAbc (Event.wr plat .seed 1)) = .next t := ⟨_, rfl⟩
theorem witness_OnlyTheHostWritesMemory :
    ∃ t, step (withEvent round0 (.memWrite 0x1001 9)) = .next t ∧
      t.mem.read 0x1001 ≠ round0.mem.read 0x1001 := ⟨_, rfl, by decide⟩
theorem witness_ResultChangesOnlyAtCompletion :
    (∃ t, step (finalOf 2 .first 0xAC199886) = .next t ∧ t.result ≠ (finalOf 2 .first 0xAC199886).result) ∧
    (∃ t, step (withEvent usedAbc (Event.wr plat .cmd 2)) = .next t ∧ t.result ≠ usedAbc.result ∧
      legal ((2 : DWord).setWidth 32) = true ∧ (2 : DWord).getLsbD 3 = false) ∧
    ∃ t, step (withEvent usedAbc .reset) = .next t ∧ t.result ≠ usedAbc.result :=
  ⟨⟨_, rfl, by decide⟩, ⟨_, rfl, by decide, by decide, by decide⟩, ⟨_, rfl, by decide⟩⟩
theorem witness_OperandsChangeOnlyByTheHost :
    (∃ t, step (withEvent round0 (Event.wr plat .seed 1)) = .next t ∧ t.seed ≠ round0.seed) ∧
    (∃ t, step (withEvent round0 (Event.wr plat .base 1)) = .next t ∧ t.base ≠ round0.base) ∧
    (∃ t, step (withEvent round0 (Event.wr plat .len 1)) = .next t ∧ t.len ≠ round0.len) ∧
    round0.busy = true ∧ (withEvent round0 (Event.wr plat .len 1)).nextEvent ≠ .reset :=
  ⟨⟨_, rfl, by decide⟩, ⟨_, rfl, by decide⟩, ⟨_, rfl, by decide⟩, by decide, by decide⟩
theorem witness_FirstPassResultIsKept :
    (∃ t, step emptyPass1 = .next t ∧ t.r1 ≠ emptyPass1.r1) ∧
    ∃ t, step (withEvent usedAbc .reset) = .next t ∧ t.r1 ≠ usedAbc.r1 :=
  ⟨⟨_, rfl, by decide⟩, ⟨_, rfl, by decide⟩⟩
theorem witness_BusyStartsAndEndsAsTheRulesSay :
    (∃ t, step (withEvent idleAbc (Event.issue plat .mix)) = .next t ∧ idleAbc.busy = false ∧
      t.busy = true) ∧
    (∃ t, step (finalOf 2 .first 1) = .next t ∧ (finalOf 2 .first 1).busy = true ∧ t.busy = false) ∧
    ∃ t, step (withEvent round0 .reset) = .next t ∧ round0.busy = true ∧ t.busy = false :=
  ⟨⟨_, rfl, by decide, by decide⟩, ⟨_, rfl, by decide, by decide⟩, ⟨_, rfl, by decide, by decide⟩⟩
/-- A refused read, then a reset, after which the machine goes on (R191, log entry 5). -/
theorem witness_RefusedRunNeverEnds :
    regAtBus plat 0x400C 32 = none ∧
    { idleAbc with events := [.read 0x400C 32, .reset] }.facing (.read 0x400C 32) ∧
    ∃ t u, step { idleAbc with events := [.read 0x400C 32, .reset] } = .next t ∧
      runSteps 2 t = .next u ∧ u.refusedMark = false ∧ u.phase = .idle ∧ u.events = [] :=
  ⟨by decide, ⟨rfl, rfl⟩, _, _, rfl, rfl, rfl, rfl, rfl⟩

end Sys2Proof.Tests
end

/-! The family of the state (10_state.md): every step keeps the invariant, and which step may change a
register. All of it is read off the one inversion of `step`, `step_effect`. -/

namespace Sys2Proof.Machine

/-! ## Words that decode -/

/-- A command word is the concatenation of its fields (R71). -/
theorem wordOfCommand_commandOfWord (w : Word) : wordOfCommand (commandOfWord w) = w := by
  unfold wordOfCommand commandOfWord
  ext i hi
  simp only [BitVec.getElem_append, BitVec.getElem_extractLsb', BitVec.getElem_ofBool]
  split
  · simp only [BitVec.getLsbD_eq_getElem hi, Nat.zero_add, dite_eq_left_iff]
    intro h3
    obtain rfl : i = 3 := by omega
    rfl
  · rw [show 4 + (i - (1 + 3)) = i by omega, BitVec.getLsbD_eq_getElem hi]

/-- Fields that decode are those of the instruction they decode to (R72, R77). -/
theorem command_of_decodeCommand {c : Command} {i : Instr} (h : decodeCommand c = .ok i) :
    i.command = c := by
  obtain ⟨rsv, p, op⟩ := c
  simp only [decodeCommand] at h
  split_ifs at h with hr h1 hp h2 h3 h4 <;> cases h <;> simp_all [Instr.command]

/-- A word that decodes is the encoding of its instruction: no bit of it is dropped (R77). -/
theorem encode_of_decode {w : Word} {i : Instr} (h : decode w = .ok i) : encode i = w := by
  rw [encode, command_of_decodeCommand h, wordOfCommand_commandOfWord]

theorem legal_encode (i : Instr) : legal (encode i) = true := by
  cases i with
  | mix => exact Laws.Legal.mix.2
  | checksum16 p => exact (Laws.Legal.checksum16 p).2
  | checksum32 p => exact (Laws.Legal.checksum32 p).2
  | checksum64 p => exact (Laws.Legal.checksum64 p).2

/-- Bit 3 of a command's word is its `P` bit (R71, R73). -/
theorem encode_getLsbD_three (i : Instr) : (encode i).getLsbD 3 = presentOf i := by
  cases i with
  | mix => rfl
  | checksum16 p | checksum32 p | checksum64 p => cases p <;> rfl

theorem legal_of_decode {w : Word} {i : Instr} (h : decode w = .ok i) : legal w = true :=
  encode_of_decode h ▸ legal_encode i

/-- The `P` bit of a command, read in the value the host wrote to `CMD` (R73, R147). -/
theorem getLsbD_three_of_decode {v : DWord} {i : Instr} (h : decode (v.setWidth 32) = .ok i) :
    v.getLsbD 3 = presentOf i := by
  rw [← encode_getLsbD_three, encode_of_decode h]
  simp

/-! ## The invariant, operation by operation -/

theorem startPhase_ne_idle (len : DWord) : startPhase len ≠ .idle := by
  unfold startPhase
  split <;> decide

/-- A pass that starts in ROUND has a byte to read (R141, R144). -/
theorem pos_of_startPhase_round {len : DWord} (h : startPhase len = .round) : 0 < len := by
  unfold startPhase at h
  split at h
  · cases h
  · next hne => exact (BitVec.pos_iff_ne_zero len).2 hne

/-- A pass that starts in FINAL is over no bytes (R106). -/
theorem eq_zero_of_startPhase_final {len : DWord} (h : startPhase len = .final) : len = 0 := by
  unfold startPhase at h
  split at h
  · next h0 => exact h0
  · cases h

/-- A ROUND step ends in ROUND or FINAL. -/
theorem roundWith_phase_ne_idle {s : State} (b : Byte) (hp : s.phase = .round) :
    (s.roundWith b).phase ≠ .idle := by
  rw [roundWith_phase, hp]
  split <;> decide

/-- Where the byte read was not the last of the buffer, there is one more to read. -/
theorem add_one_lt_of_lt_of_ne {i n : DWord} (h : i < n) (hne : i + 1 ≠ n) : i + 1 < n := by
  bv_omega

section Invariant
variable {s : State} (h : s.Inv)
include h

theorem State.Inv.popEvent : s.popEvent.Inv := { h with }

theorem State.Inv.raise (c : Cause) : (s.raise c).Inv :=
  { h with
    everIllegal := fun he => by
      rw [raise_errIllegal, Bool.or_eq_true] at he
      rw [raise_everIllegal, Bool.or_eq_true]
      exact he.imp_left h.everIllegal
    everBusy := fun he => by
      rw [raise_errBusy, Bool.or_eq_true] at he
      rw [raise_everBusy, Bool.or_eq_true]
      exact he.imp_left h.everBusy }

theorem State.Inv.rejectIllegal (hp : s.phase = .idle) : s.rejectIllegal.Inv :=
  { h.raise .illegalCommand with
    notBusyAndDone := fun _ => hp
    beforeFirst := fun _ hd => nomatch hd }

theorem State.Inv.completeNull (hp : s.phase = .idle) : s.completeNull.Inv :=
  { h with
    notBusyAndDone := fun _ => hp
    beforeFirst := fun _ hd => nomatch hd }

/-- Acceptance starts the first pass of one of the four operations (R141). -/
theorem State.Inv.accept {op : BitVec 3} (seed : Word) (hop : op = 1 ∨ op = 2 ∨ op = 3 ∨ op = 4) :
    (s.accept op seed).Inv :=
  { h with
    notBusyAndDone := fun hd => nomatch hd
    roundIdx := pos_of_startPhase_round
    finalIdx := fun hp => (eq_zero_of_startPhase_final hp).symm
    lopAssigned := .inr hop
    runningOp := fun _ => by rcases hop with rfl | rfl | rfl | rfl <;> simp
    secondPass := fun hp => nomatch hp
    beforeFirst := fun hp => absurd hp (startPhase_ne_idle s.len) }

theorem State.Inv.clearErrors (v : Word) : (s.clearErrors v).Inv :=
  { h with
    everIllegal := fun he => h.everIllegal (Bool.and_eq_true_iff.1 he).1
    everBusy := fun he => h.everBusy (Bool.and_eq_true_iff.1 he).1 }

/-- The host's operands are not latched yet: the invariant does not speak of them (R35). -/
theorem State.Inv.setOperands (seed : Word) (base len : DWord) :
    { s with seed := seed, base := base, len := len }.Inv := { h with }

theorem State.Inv.markRefused : s.markRefused.Inv := { h with everRefused := fun _ => rfl }

theorem State.Inv.recordHostRead (v : DWord) : (s.recordHostRead v).Inv := { h with }

theorem State.Inv.hostMemWrite (a : DWord) (b : Byte) : (s.hostMemWrite a b).Inv :=
  { h with memWf := Memory.write_wf s.mem a b h.memWf }

theorem State.Inv.assertReset : s.assertReset.Inv :=
  { h with
    notBusyAndDone := fun _ => rfl
    roundIdx := fun hp => nomatch hp
    finalIdx := fun hp => nomatch hp
    lopAssigned := .inl rfl
    runningOp := fun hp => absurd rfl hp
    secondPass := fun hp => nomatch hp
    beforeFirst := fun _ _ => ⟨rfl, rfl, rfl⟩
    everIllegal := fun he => nomatch he
    everBusy := fun he => nomatch he
    everRefused := fun he => nomatch he }

/-- A ROUND step leaves a byte to read unless it read the last one (R143). -/
theorem State.Inv.roundWith (b : Byte) (hp : s.phase = .round) : (s.roundWith b).Inv := by
  have hbusy := roundWith_phase_ne_idle b hp
  have hrun : s.phase ≠ .idle := by simp [hp]
  exact { h with
    notBusyAndDone := fun hd => absurd (h.notBusyAndDone hd) hrun
    roundIdx := fun hr => by
      rw [roundWith_phase] at hr
      split at hr
      · cases hr
      · next hne => exact add_one_lt_of_lt_of_ne (h.roundIdx hp) hne
    finalIdx := fun hf => by
      rw [roundWith_phase, hp] at hf
      split at hf
      · next heq => exact heq
      · cases hf
    runningOp := fun _ => h.runningOp hrun
    secondPass := fun h2 => ⟨(h.secondPass h2).1, hbusy⟩
    beforeFirst := fun hi => absurd hi hbusy }

/-- The end of pass 1 starts the second pass of CHECKSUM64 (R144). -/
theorem State.Inv.finalPass1 (hp : s.phase = .final) (hlop : s.lop = 4) : s.finalPass1.Inv :=
  have hbusy := startPhase_ne_idle s.llen
  { h with
    notBusyAndDone := fun hd => nomatch hp.symm.trans (h.notBusyAndDone hd)
    roundIdx := pos_of_startPhase_round
    finalIdx := fun hf => (eq_zero_of_startPhase_final hf).symm
    runningOp := fun _ => h.runningOp (by simp [hp])
    secondPass := fun _ => ⟨hlop, hbusy⟩
    beforeFirst := fun hi => absurd hi hbusy }

theorem State.Inv.completeWith (r : DWord) : (s.completeWith r).Inv :=
  { h with
    notBusyAndDone := fun _ => rfl
    roundIdx := fun hp => nomatch hp
    finalIdx := fun hp => nomatch hp
    runningOp := fun hp => absurd rfl hp
    secondPass := fun hp => nomatch hp
    beforeFirst := fun _ hd => nomatch hd }

end Invariant

/-- Settles O45: each effect a step can have is an operation that keeps the invariant. -/
theorem stepKeepsInvariant : Obligations.StepKeepsInvariant := by
  intro s t hs h
  have hpop := hs.popEvent
  cases step_effect h with
  | busyCommand => exact hpop.raise _
  | illegalCommand v hb => exact hpop.rejectIllegal ((not_busy_iff s).1 hb)
  | accepted v i op seed _ _ _ _ hop => exact hpop.accept seed hop
  | nullCommand v i hb => exact hpop.completeNull ((not_busy_iff s).1 hb)
  | statusWrite => exact hpop.clearErrors _
  | seedWrite v => exact hpop.setOperands _ s.base s.len
  | baseWrite v => exact hpop.setOperands s.seed v s.len
  | lenWrite v => exact hpop.setOperands s.seed s.base v
  | resultWrite | idle | stuck => exact hpop
  | refusedRead | refusedWrite => exact hpop.markRefused
  | regRead => exact hpop.recordHostRead _
  | memWrite => exact hpop.hostMemWrite _ _
  | reset => exact hpop.assertReset
  | round b _ hp => exact hpop.roundWith b hp
  | endPass1 _ hp hlop => exact hpop.finalPass1 hp hlop
  | complete => exact hpop.completeWith _

/-! ## Which step may change a register -/

/-- Settles O49: no effect of a step writes the parameters. -/
theorem configurationNeverChanges : Obligations.ConfigurationNeverChanges := by
  intro s t h
  cases step_effect h <;> rfl

/-- Settles O51: of the effects of a step, only a completion, the null shortcut and reset write RESULT. -/
theorem resultChangesOnlyAtCompletion : Obligations.ResultChangesOnlyAtCompletion := by
  intro s t h hne
  cases step_effect h with
  | complete r he hp => exact .inl ⟨he, hp, rfl, rfl⟩
  | nullCommand v i hb he hd hnull =>
    have hidle := (not_busy_iff s).1 hb
    have hp : v.getLsbD 3 = false := (getLsbD_three_of_decode hd).trans hnull
    exact .inr (.inl ⟨v, he, legal_of_decode hd, hp, hidle, hidle, rfl, rfl⟩)
  | reset he => exact .inr (.inr he)
  | _ => exact absurd rfl hne

/-- Settles O52: only acceptance, which a busy machine does not make, and reset write the latched operands;
`SEED`, `BASE` and `LEN` each have their own write. -/
theorem operandsChangeOnlyByTheHost : Obligations.OperandsChangeOnlyByTheHost := by
  intro s t h hr
  have latched : s.lop = s.lop ∧ s.lbase = s.lbase ∧ s.llen = s.llen := ⟨rfl, rfl, rfl⟩
  cases step_effect h with
  | accepted v i op seed hb =>
    exact ⟨fun hbusy => (nomatch hb.symm.trans hbusy), absurd rfl, absurd rfl, absurd rfl⟩
  | seedWrite v he => exact ⟨fun _ => latched, fun _ => ⟨v, he, rfl⟩, absurd rfl, absurd rfl⟩
  | baseWrite v he => exact ⟨fun _ => latched, absurd rfl, fun _ => ⟨v, he, rfl⟩, absurd rfl⟩
  | lenWrite v he => exact ⟨fun _ => latched, absurd rfl, absurd rfl, fun _ => ⟨v, he, rfl⟩⟩
  | reset he => exact absurd he hr
  | _ => exact ⟨fun _ => latched, absurd rfl, absurd rfl, absurd rfl⟩

/-- Settles O53: of the effects of a step, only the end of pass 1 and reset write R1. -/
theorem firstPassResultIsKept : Obligations.FirstPassResultIsKept := by
  intro s t h hne
  cases step_effect h with
  | endPass1 he hp hlop hpass => exact .inl ⟨he, hp, hlop, hpass⟩
  | reset he => exact .inr he
  | _ => exact absurd rfl hne

/-- The machine becomes busy only by an accepted `CMD` write (R141, R175). -/
theorem wr_cmd_of_becomes_busy {s t : State} (h : step s = .next t) (hs : s.busy = false)
    (ht : t.busy = true) :
    ∃ v : DWord, s.nextEvent = Event.wr s.cfg .cmd v ∧ legal (v.setWidth 32) = true ∧
      v.getLsbD 3 = true ∧ t.done = false := by
  have hidle := (not_busy_iff s).1 hs
  cases step_effect h with
  | accepted v i op seed _ he hd hpres =>
    exact ⟨v, he, legal_of_decode hd, (getLsbD_three_of_decode hd).trans hpres, rfl⟩
  | reset => cases ht
  | round b _ hp => cases hidle.symm.trans hp
  | endPass1 _ hp => cases hidle.symm.trans hp
  | complete r _ hp => cases hidle.symm.trans hp
  | _ => cases hs.symm.trans ht

/-- The machine becomes idle only by a completing FINAL step or by reset (R145, R181). -/
theorem final_or_reset_of_becomes_idle {s t : State} (h : step s = .next t) (hs : s.busy = true)
    (ht : t.busy = false) :
    (s.nextEvent = .seq ∧ s.phase = .final ∧ t.done = true) ∨ s.nextEvent = .reset := by
  have hidle := (not_busy_iff t).1 ht
  cases step_effect h with
  | complete r he hp => exact .inl ⟨he, hp, rfl⟩
  | reset he => exact .inr he
  | accepted => exact absurd hidle (startPhase_ne_idle _)
  | round b _ hp => exact absurd hidle (roundWith_phase_ne_idle b hp)
  | endPass1 => exact absurd hidle (startPhase_ne_idle _)
  | _ => cases hs.symm.trans ht

/-- Settles O54: one lemma for the start of BUSY, one for its end. -/
theorem busyStartsAndEndsAsTheRulesSay : Obligations.BusyStartsAndEndsAsTheRulesSay := fun _ _ h =>
  ⟨wr_cmd_of_becomes_busy h, final_or_reset_of_becomes_idle h⟩

/-! ## Refused accesses -/

/-- An access reaches a register exactly at a register's own address and width (R23, R51). -/
theorem regAtBus_ne_none_iff {c : Config} {addr width : Nat} :
    regAtBus c addr width ≠ none ↔ ∃ r : Reg, addr = busAddr c r ∧ width = r.width := by
  constructor
  · intro h
    obtain ⟨r, hr⟩ := Option.ne_none_iff_exists'.1 h
    exact ⟨r, regAtBus_some hr⟩
  · rintro ⟨r, rfl, rfl⟩
    simp

/-- The six registers of R23, by address and width. -/
theorem exists_reg_iff (c : Config) (addr width : Nat) :
    (∃ r : Reg, addr = busAddr c r ∧ width = r.width) ↔
      (addr = c.regBase + 0x00 ∧ width = 32) ∨ (addr = c.regBase + 0x04 ∧ width = 32) ∨
      (addr = c.regBase + 0x08 ∧ width = 32) ∨ (addr = c.regBase + 0x10 ∧ width = 64) ∨
      (addr = c.regBase + 0x18 ∧ width = 64) ∨ (addr = c.regBase + 0x20 ∧ width = 64) := by
  constructor
  · rintro ⟨r, rfl, rfl⟩
    cases r <;> simp [busAddr, Reg.offset, Reg.width]
  · rintro (h | h | h | h | h | h)
    · exact ⟨.cmd, h⟩
    · exact ⟨.status, h⟩
    · exact ⟨.seed, h⟩
    · exact ⟨.base, h⟩
    · exact ⟨.len, h⟩
    · exact ⟨.result, h⟩

/-- An access that reaches no register marks the state as refused (R30). -/
theorem step_of_refused_access {s : State} {addr width : Nat} {v : DWord}
    (hn : regAtBus s.cfg addr width = none)
    (hf : s.facing (.read addr width) ∨ s.facing (.write addr width v)) :
    step s = .next s.popEvent.markRefused := by
  rcases hf with hf | hf
  · rw [step_of_facing hf]
    simp [stepOf, hostRead, hn]
  · rw [step_of_facing hf]
    simp [stepOf, hostWrite, hn]

/-- Settles O22: the listed registers by `exists_reg_iff`, the refused access by `step_of_refused_access`. -/
theorem unlistedAccessIsRefused : Obligations.UnlistedAccessIsRefused := by
  intro c addr width
  refine ⟨regAtBus_ne_none_iff.trans (exists_reg_iff c addr width), ?_⟩
  rintro hn s v rfl hf
  exact step_of_refused_access hn hf

end Sys2Proof.Machine

/-! The family of the memory (20_memory.md): what a step does to the data memory and to the record of reads,
and the sequencer whose read is not admitted. -/

namespace Sys2Proof.Machine

/-! ## The data memory, step by step -/

/-- An event changes what an address reads as only by being the host's write at that address (R50). -/
theorem Event.eq_memWrite_of_read_writeMem_ne {e : Event} {m : Memory} {a : DWord}
    (h : (e.writeMem m).read a ≠ m.read a) : ∃ b, e = .memWrite a b := by
  cases e with
  | memWrite x b =>
    by_cases hx : a = x
    · exact ⟨b, by rw [hx]⟩
    · exact absurd (Memory.read_write_other m x a b hx) h
  | read | write | seq | reset => exact absurd rfl h

/-- No event changes which reads are admitted (R56). -/
theorem Event.read_writeMem_isSome (e : Event) (m : Memory) (a : DWord) :
    ((e.writeMem m).read a).isSome = (m.read a).isSome := by
  cases e with
  | memWrite x b => exact Memory.read_write_isSome m x a b
  | read | write | seq | reset => rfl

/-- After a step, the memory is what its event makes of it: no register access and no turn of the sequencer
writes it (R50). -/
theorem step_mem {s t : State} (h : step s = .next t) : t.mem = s.nextEvent.writeMem s.mem := by
  cases step_effect h with
  | busyCommand _ _ he | illegalCommand _ _ he | accepted _ _ _ _ _ he | nullCommand _ _ _ he
  | statusWrite _ he | seedWrite _ he | baseWrite _ he | lenWrite _ he | resultWrite _ he
  | refusedRead _ _ he | refusedWrite _ _ _ he | regRead _ _ he | memWrite _ _ he | reset he
  | idle he | stuck he | round _ he | endPass1 he | complete _ he => rw [he]; rfl

/-- No step changes which reads are admitted (R56). -/
theorem step_read_isSome {s t : State} (h : step s = .next t) (a : DWord) :
    (t.mem.read a).isSome = (s.mem.read a).isSome := by
  rw [step_mem h, Event.read_writeMem_isSome]

/-- Only a ROUND step reads, one byte, at its own address (R55, R143). -/
theorem step_memReads {s t : State} (h : step s = .next t) :
    t.memReads = s.memReads ∨
      (s.nextEvent = .seq ∧ s.phase = .round ∧ t.memReads = (s.lbase + s.idx) :: s.memReads) := by
  cases step_effect h with
  | round b he hp => exact .inr ⟨he, hp, rfl⟩
  | _ => exact .inl rfl

/-- Settles O50: the bytes and the admitted reads by `step_mem`, the record of reads by `step_memReads`. -/
theorem onlyTheHostWritesMemory : Obligations.OnlyTheHostWritesMemory := fun _ _ h =>
  ⟨fun _ hne => Event.eq_memWrite_of_read_writeMem_ne (step_mem h ▸ hne), step_read_isSome h,
    step_memReads h⟩

/-! ## The schedule -/

/-- A step takes its own event off the schedule and does nothing else to it. -/
theorem step_events {s t : State} (h : step s = .next t) : t.events = s.events.tail := by
  cases step_effect h <;> rfl

/-- The next event is one of the schedule, or the sequencer's turn. -/
theorem nextEvent_ne_reset {s : State} (h : ∀ e ∈ s.events, e ≠ .reset) : s.nextEvent ≠ .reset := by
  unfold State.nextEvent
  split
  · decide
  · next e es he => exact h e (by simp [he])

/-- Reset has a meaning in every state (R180). -/
theorem step_of_reset {s : State} (h : s.nextEvent = .reset) : step s = .next s.popEvent.assertReset := by
  simp [step, stepEvent, stepOf, h]

/-- What every step keeps, every run keeps. -/
theorem runSteps_keeps {P : State → Prop} (hstep : ∀ s t, P s → step s = .next t → P t)
    {k : Nat} {s t : State} (hs : P s) (h : runSteps k s = .next t) : P t := by
  induction k generalizing s with
  | zero => cases h; exact hs
  | succ k ih =>
    rw [runSteps_succ] at h
    cases hu : step s with
    | next u => rw [hu] at h; exact ih (hstep s u hs hu) h
    | fault r => rw [hu] at h; cases h
    | refused r => rw [hu] at h; cases h

/-- Where a step changes nothing, no number of steps does. -/
theorem runSteps_of_step_self {s : State} (h : step s = .next s) (k : Nat) : runSteps k s = .next s := by
  induction k with
  | zero => rfl
  | succ k ih => rw [runSteps_of_step h, ih]

/-! ## The stuck sequencer -/

/-- The next ROUND step gets a byte exactly where the memory admits the read (R56). -/
theorem nextByte_eq_none_iff (s : State) : s.nextByte = none ↔ s.mem.read (s.lbase + s.idx) = none := by
  unfold State.nextByte State.readAddr byteAddr
  cases s.mem.read (s.lbase + s.idx) <;> simp

/-- Where the read is not admitted, the sequencer has no step (R56). -/
theorem seqStep_of_read_none {s : State} (hp : s.phase = .round)
    (hn : s.mem.read (s.lbase + s.idx) = none) : seqStep s = .next s := by
  simp [seqStep, seqRound, hp, (nextByte_eq_none_iff s).2 hn]

/-- `t` is stuck at the read at which `s` was (R56), with no reset scheduled: in ROUND, the read not
admitted, and the running command where it was in `s`. -/
structure State.StuckSince (s t : State) : Prop where
  noReset : ∀ e ∈ t.events, e ≠ .reset
  phase : t.phase = .round
  noRead : t.mem.read (t.lbase + t.idx) = none
  h : t.h = s.h
  idx : t.idx = s.idx
  result : t.result = s.result
  memReads : t.memReads = s.memReads
  done : t.done = s.done
  errIllegal : t.errIllegal = true → s.errIllegal = true

/-- A step other than reset leaves a stuck machine stuck: it is busy, so no command is accepted, completed or
found illegal, and the sequencer has neither a byte nor a FINAL step (R56). -/
theorem State.StuckSince.step {s t u : State} (hst : s.StuckSince t) (hu : step t = .next u) :
    s.StuckSince u := by
  have hbusy : t.busy = true := (busy_iff t).2 (by simp [hst.phase])
  have hev : ∀ e ∈ u.events, e ≠ .reset := fun e he =>
    hst.noReset e (List.mem_of_mem_tail (step_events hu ▸ he))
  have hread : u.mem.read (t.lbase + t.idx) = none := by
    have hsome := step_read_isSome hu (t.lbase + t.idx)
    simpa [hst.noRead] using hsome
  cases step_effect hu with
  | illegalCommand _ hb | accepted _ _ _ _ hb | nullCommand _ _ hb => cases hbusy.symm.trans hb
  | idle _ hp | endPass1 _ hp | complete _ _ hp => cases hst.phase.symm.trans hp
  | round b _ _ hb => cases ((nextByte_eq_none_iff t).2 hst.noRead).symm.trans hb
  | reset he => exact absurd he (nextEvent_ne_reset hst.noReset)
  | busyCommand =>
    exact { hst with
      noReset := hev
      noRead := hread
      errIllegal := by simpa using hst.errIllegal }
  | statusWrite v =>
    exact { hst with
      noReset := hev
      noRead := hread
      errIllegal := fun he => hst.errIllegal (Bool.and_eq_true_iff.1 he).1 }
  | _ => exact { hst with noReset := hev, noRead := hread }

/-- Settles O21: every step but reset keeps `State.StuckSince`; the sequencer's own turn is
`seqStep_of_read_none`. -/
theorem stuckSequencerStaysStuck : Obligations.StuckSequencerStaysStuck := by
  intro k s hp hn
  refine ⟨?_, ?_, ?_, ?_⟩
  · intro t hev ht
    have hstart : s.StuckSince s := ⟨hev, hp, hn, rfl, rfl, rfl, rfl, rfl, id⟩
    have hst : s.StuckSince t := runSteps_keeps (fun _ _ => State.StuckSince.step) hstart ht
    exact ⟨(busy_iff t).2 (by simp [hst.phase]), hst.phase, hst.noRead, hst.h, hst.idx, hst.result,
      hst.memReads, hst.done, hst.errIllegal⟩
  · intro he hm
    exact runSteps_of_step_self ((step_of_quiet hm he).trans (seqStep_of_read_none hp hn)) k
  · intro hf
    exact (step_of_facing hf).trans (seqStep_of_read_none (s := s.popEvent) hp hn)
  · intro he
    exact ⟨_, step_of_reset he, rfl⟩

end Sys2Proof.Machine

/-! The family of the encoding (30_encoding.md): a word decodes to an instruction exactly when it is that
instruction's encoding. Which words are legal, and each row's match and mask, are read off that
equivalence. -/

namespace Sys2Proof.Machine

/-! ## Decoding inverts encoding (R77) -/

theorem decode_encode (i : Instr) : decode (encode i) = .ok i := by
  cases i with
  | mix => exact Laws.RoundTrip.mix
  | checksum16 p => exact Laws.RoundTrip.checksum16 p
  | checksum32 p => exact Laws.RoundTrip.checksum32 p
  | checksum64 p => exact Laws.RoundTrip.checksum64 p

theorem decode_eq_ok_iff {w : Word} {i : Instr} : decode w = .ok i ↔ encode i = w :=
  ⟨encode_of_decode, fun h => h ▸ decode_encode i⟩

/-- Settles O3: `encode_of_decode` drops no bit of the word, and `decode_encode` gives the instruction
back. -/
theorem decodeInvertsEncode : Obligations.DecodeInvertsEncode := fun _ _ => decode_eq_ok_iff

/-- Settles O1: the seven words are the encodings of their commands; the two neighbours are evaluated. -/
theorem tableWordsDecode : Obligations.TableWordsDecode :=
  ⟨decode_encode .mix, decode_encode (.checksum16 true), decode_encode (.checksum16 false),
    decode_encode (.checksum32 true), decode_encode (.checksum32 false),
    decode_encode (.checksum64 true), decode_encode (.checksum64 false), rfl, rfl⟩

/-! ## The legal words (R74) -/

/-- The formula of R74, read as a proposition. -/
theorem legal_iff (w : Word) : legal w = true ↔
    w.extractLsb' 4 28 = 0 ∧
      ((w.extractLsb' 0 3 = 1 ∧ w.getLsbD 3 = true) ∨ w.extractLsb' 0 3 = 2 ∨
        w.extractLsb' 0 3 = 3 ∨ w.extractLsb' 0 3 = 4) := by
  simp only [legal, Bool.and_eq_true, Bool.or_eq_true, beq_iff_eq, or_assoc]

/-- The decoder refuses no legal word: one instruction for each case of R74's formula. -/
theorem exists_decode_of_legal {w : Word} (h : legal w = true) : ∃ i, decode w = .ok i := by
  obtain ⟨hrsv, ⟨hop, hp⟩ | hop | hop | hop⟩ := (legal_iff w).1 h
  · exact ⟨.mix, by simp [decode, decodeCommand, commandOfWord, hrsv, hop, hp]⟩
  · exact ⟨.checksum16 (w.getLsbD 3), by simp [decode, decodeCommand, commandOfWord, hrsv, hop]⟩
  · exact ⟨.checksum32 (w.getLsbD 3), by simp [decode, decodeCommand, commandOfWord, hrsv, hop]⟩
  · exact ⟨.checksum64 (w.getLsbD 3), by simp [decode, decodeCommand, commandOfWord, hrsv, hop]⟩

theorem legal_iff_exists_decode (w : Word) : legal w = true ↔ ∃ i, decode w = .ok i :=
  ⟨exists_decode_of_legal, fun ⟨_, h⟩ => legal_of_decode h⟩

/-- The encodings are the seven words that R74 lists. -/
theorem exists_encode_iff_listed (w : Word) : (∃ i, encode i = w) ↔
    w = 0x00000009 ∨ w = 0x00000002 ∨ w = 0x0000000A ∨ w = 0x00000003 ∨ w = 0x0000000B ∨
      w = 0x00000004 ∨ w = 0x0000000C := by
  constructor
  · rintro ⟨i, rfl⟩
    cases i with
    | mix => decide
    | checksum16 p | checksum32 p | checksum64 p => cases p <;> decide
  · rintro (rfl | rfl | rfl | rfl | rfl | rfl | rfl)
    · exact ⟨.mix, rfl⟩
    · exact ⟨.checksum16 false, rfl⟩
    · exact ⟨.checksum16 true, rfl⟩
    · exact ⟨.checksum32 false, rfl⟩
    · exact ⟨.checksum32 true, rfl⟩
    · exact ⟨.checksum64 false, rfl⟩
    · exact ⟨.checksum64 true, rfl⟩

/-- R141, R161: an illegal word written while idle is turned away. -/
theorem hostWriteCmd_of_illegal {w : Word} {s : State} (hw : legal w = false) (hb : s.busy = false) :
    hostWriteCmd w s = .next s.rejectIllegal := by
  cases hd : decode w with
  | ok i => simp [legal_of_decode hd] at hw
  | error e => simp [hostWriteCmd, hb, hd]

@[simp] theorem rejectIllegal_errIllegal (s : State) : s.rejectIllegal.errIllegal = true := by
  simp [State.rejectIllegal]

/-- Settles O2: a legal word decodes, so it is an encoding, and there are seven of those. -/
theorem legalWordsAreExactlySeven : Obligations.LegalWordsAreExactlySeven := by
  intro w
  refine ⟨legal_iff w, ?_, legal_iff_exists_decode w, fun s hw hb =>
    ⟨hostWriteCmd_of_illegal hw hb, rejectIllegal_errIllegal s⟩⟩
  calc legal w = true
    _ ↔ ∃ i, decode w = .ok i := legal_iff_exists_decode w
    _ ↔ ∃ i, encode i = w := exists_congr fun _ => decode_eq_ok_iff
    _ ↔ _ := exists_encode_iff_listed w

/-! ## Match and mask (30_encoding.md section 4) -/

/-- The fields of a command's word are the command's (R71). -/
theorem commandOfWord_wordOfCommand (c : Command) : commandOfWord (wordOfCommand c) = c := by
  have hrsv : (wordOfCommand c).extractLsb' 4 28 = c.rsv := BitVec.extractLsb'_append_eq_left
  have hp : (wordOfCommand c).getLsbD 3 = c.p :=
    BitVec.getLsbD_append.trans (by rw [if_pos (by decide), BitVec.getLsbD_append]; simp)
  have hop : (wordOfCommand c).extractLsb' 0 3 = c.op :=
    (BitVec.extractLsb'_append_eq_of_add_le (by decide)).trans BitVec.extractLsb'_append_eq_right
  rw [commandOfWord, hrsv, hp, hop]

theorem wordOfCommand_injective : Function.Injective wordOfCommand :=
  Function.LeftInverse.injective commandOfWord_wordOfCommand

/-- Masking a word masks each of its fields. -/
theorem wordOfCommand_and_wordOfCommand (c d : Command) :
    wordOfCommand c &&& wordOfCommand d = wordOfCommand ⟨c.rsv &&& d.rsv, c.p && d.p, c.op &&& d.op⟩ := by
  have hlow : BitVec.ofBool c.p ++ c.op &&& BitVec.ofBool d.p ++ d.op =
      BitVec.ofBool (c.p && d.p) ++ (c.op &&& d.op) := by
    rw [BitVec.and_append, BitVec.ofBool_and_ofBool]
  exact BitVec.and_append.trans (congrArg ((c.rsv &&& d.rsv) ++ ·) hlow)

/-- The mask of a checksum's row clears `P` and keeps `RSV` and `OP`. -/
theorem wordOfCommand_and_rowMask (c : Command) :
    wordOfCommand c &&& 0xFFFFFFF7 = wordOfCommand { c with p := false } := by
  have hmask : (0xFFFFFFF7 : Word) = wordOfCommand ⟨BitVec.allOnes 28, false, BitVec.allOnes 3⟩ := rfl
  rw [hmask, wordOfCommand_and_wordOfCommand, BitVec.and_allOnes, BitVec.and_allOnes, Bool.and_false]

/-- A row whose `P` bit is free takes the words that are its match value under the mask. -/
theorem exists_wordOfCommand_iff_masked (op : BitVec 3) (w : Word) :
    (∃ p, wordOfCommand ⟨0, p, op⟩ = w) ↔ w &&& 0xFFFFFFF7 = wordOfCommand ⟨0, false, op⟩ := by
  constructor
  · rintro ⟨p, rfl⟩
    exact wordOfCommand_and_rowMask _
  · intro h
    rw [← wordOfCommand_commandOfWord w] at h ⊢
    generalize commandOfWord w = c at h ⊢
    rw [wordOfCommand_and_rowMask] at h
    obtain ⟨rsv, p, op'⟩ := c
    cases wordOfCommand_injective h
    exact ⟨p, rfl⟩

/-- Bit 3 of a word that decodes is the `P` bit of its command (R71, R73). -/
theorem getLsbD_three_of_decode_word {w : Word} {i : Instr} (h : decode w = .ok i) :
    w.getLsbD 3 = presentOf i :=
  encode_of_decode h ▸ encode_getLsbD_three i

/-- Settles O4: a row's words are its encodings, and those are the words the mask takes to the match. -/
theorem decodeFollowsMatchAndMask : Obligations.DecodeFollowsMatchAndMask := by
  intro w
  refine ⟨?_, ?_, ?_, ?_, ?_⟩
  · rw [decode_eq_ok_iff, show w &&& 0xFFFFFFFF = w from BitVec.and_allOnes]
    exact eq_comm
  · exact (exists_congr fun _ => decode_eq_ok_iff).trans (exists_wordOfCommand_iff_masked 2 w)
  · exact (exists_congr fun _ => decode_eq_ok_iff).trans (exists_wordOfCommand_iff_masked 3 w)
  · exact (exists_congr fun _ => decode_eq_ok_iff).trans (exists_wordOfCommand_iff_masked 4 w)
  · rintro p (h | h | h) <;> exact (getLsbD_three_of_decode_word h).symm

end Sys2Proof.Machine

/-! The family of the Mixer (40_mixer.md): the round and the finalization on integers and as bijections, the
sequencer's steps run forward over one pass, and MIX from its `CMD` write to its result. -/

namespace Sys2Proof.Machine

/-! ## The round and the finalization on integers (R101, R102, R104) -/

theorem toNat_add_shiftLeft (h : Word) (n : Nat) :
    (h + h <<< n).toNat = (h.toNat + h.toNat * 2 ^ n) % 2 ^ 32 := by
  simp [BitVec.toNat_add, BitVec.toNat_shiftLeft, Nat.shiftLeft_eq]

theorem toNat_ushiftRight_eq_div (h : Word) (n : Nat) : (h >>> n).toNat = h.toNat / 2 ^ n := by
  rw [BitVec.toNat_ushiftRight, Nat.shiftRight_eq_div_pow]

/-- Step 1 takes the length modulo 2^32, whether before the XOR or after the sum. -/
theorem roundAdd_ofNat_toNat (h : Word) (b : Byte) (n : Nat) :
    (roundAdd h b (BitVec.ofNat 32 n)).toNat = (h.toNat + (b.toNat ^^^ n)) % 2 ^ 32 := by
  have hxor : (b.setWidth 32 ^^^ BitVec.ofNat 32 n).toNat = (b.toNat ^^^ n) % 2 ^ 32 := by
    rw [Nat.xor_mod_two_pow, BitVec.toNat_xor, BitVec.toNat_setWidth, BitVec.toNat_ofNat]
  rw [roundAdd, BitVec.toNat_add, hxor, Nat.add_mod_mod]

/-- R101 on integers, with a length of any size. -/
theorem mixRound_ofNat_toNat (h : Word) (b : Byte) (n : Nat) :
    (mixRound h b (BitVec.ofNat 32 n)).toNat =
      let h1 := (h.toNat + (b.toNat ^^^ n)) % 2 ^ 32
      let h2 := (h1 + h1 * 2 ^ 10) % 2 ^ 32
      h2 ^^^ (h2 / 2 ^ 6) := by
  simp only [mixRound, BitVec.toNat_xor, toNat_ushiftRight_eq_div, toNat_add_shiftLeft,
    roundAdd_ofNat_toNat]

/-- R102 on integers, with a length of any size. -/
theorem fin_ofNat_toNat (h : Word) (n : Nat) :
    (fin h (BitVec.ofNat 32 n)).toNat =
      let h4 := (h.toNat + h.toNat * 2 ^ 3) % 2 ^ 32
      let h5 := h4 ^^^ ((h4 / 2 ^ 11 + n) % 2 ^ 32)
      (h5 + h5 * 2 ^ 15) % 2 ^ 32 := by
  have hadd (x : Word) : (x + BitVec.ofNat 32 n).toNat = (x.toNat + n) % 2 ^ 32 := by
    rw [BitVec.toNat_add, BitVec.toNat_ofNat, Nat.add_mod_mod]
  simp only [fin, toNat_add_shiftLeft, BitVec.toNat_xor, hadd, toNat_ushiftRight_eq_div]

/-- Settles O29: `mixRound_ofNat_toNat` at a 32-bit length. -/
theorem roundOnIntegers : Obligations.RoundOnIntegers := by
  intro h l32 b
  simpa using mixRound_ofNat_toNat h b l32.toNat

/-- Settles O30: `fin_ofNat_toNat` at a 32-bit length. -/
theorem finalizationOnIntegers : Obligations.FinalizationOnIntegers := by
  intro h l32
  simpa using fin_ofNat_toNat h l32.toNat

/-! ## The shift-add steps (R109) -/

theorem add_shiftLeft_eq_mul (h : Word) (n : Nat) : h + h <<< n = h * (1 + BitVec.twoPow 32 n) := by
  rw [BitVec.shiftLeft_eq_mul_twoPow, mul_add, mul_one]

theorem add_shiftLeft_ten (h : Word) : h + h <<< 10 = h * 1025 := add_shiftLeft_eq_mul h 10

theorem add_shiftLeft_three (h : Word) : h + h <<< 3 = h * 9 := add_shiftLeft_eq_mul h 3

theorem add_shiftLeft_fifteen (h : Word) : h + h <<< 15 = h * 32769 := add_shiftLeft_eq_mul h 15

theorem mixRound_eq_mul (h : Word) (b : Byte) (l32 : Word) :
    mixRound h b l32 =
      let h1 := h + (b.setWidth 32 ^^^ l32)
      let h2 := h1 * 1025
      h2 ^^^ h2 >>> 6 := by
  simp only [mixRound, roundAdd, add_shiftLeft_ten]

theorem fin_eq_mul (h l32 : Word) :
    fin h l32 =
      let h4 := h * 9
      let h5 := h4 ^^^ (h4 >>> 11 + l32)
      h5 * 32769 := by
  simp only [fin, add_shiftLeft_three, add_shiftLeft_fifteen]

/-- Settles O32: the three identities, and the round and the finalization rewritten by them. -/
theorem shiftAddIsMultiplication : Obligations.ShiftAddIsMultiplication := fun h l32 b =>
  ⟨⟨add_shiftLeft_ten h, add_shiftLeft_three h, add_shiftLeft_fifteen h⟩, mixRound_eq_mul h b l32,
    fin_eq_mul h l32⟩

/-! ## The Mixer's equations (R103) -/

@[simp] theorem rounds_nil (l s : Word) : rounds l s [] = s := rfl

theorem rounds_cons (l s : Word) (b : Byte) (d : List Byte) :
    rounds l s (b :: d) = rounds l (mixRound s b l) d := rfl

theorem rounds_concat (l s : Word) (d : List Byte) (b : Byte) :
    rounds l s (d ++ [b]) = mixRound (rounds l s d) b l := by
  simp [rounds]

/-- Settles O31: the loop's equations at both of its ends. -/
theorem mixerRunsRoundsThenFinalization : Obligations.MixerRunsRoundsThenFinalization := fun s d b l =>
  ⟨rfl, rounds_nil l s, rounds_cons l s b d, rounds_concat l s d b⟩

/-! ## The finalization as a bijection (R106) -/

/-- A factor with an inverse modulo 2^32 can be cancelled. -/
theorem mul_injective_of_mul_eq_one {a b : Word} (hab : a * b = 1) :
    Function.Injective fun x : Word => x * a :=
  (IsUnit.of_mul_eq_one b hab).mul_left_injective

/-- A word that is its own shift to the right is 0. -/
theorem eq_zero_of_eq_ushiftRight {x : Word} {n : Nat} (hn : n ≠ 0) (h : x = x >>> n) : x = 0 := by
  have hdiv : x.toNat = x.toNat / 2 ^ n := (congrArg BitVec.toNat h).trans (toNat_ushiftRight_eq_div x n)
  have hzero : x.toNat = 0 := by
    by_contra hpos
    exact (Nat.div_lt_self (Nat.pos_of_ne_zero hpos) (Nat.one_lt_two_pow hn)).ne hdiv.symm
  exact BitVec.eq_of_toNat_eq hzero

/-- The XOR with its own shift determines a word: the step is linear, and only 0 goes to 0. -/
theorem xor_ushiftRight_injective {n : Nat} (hn : n ≠ 0) :
    Function.Injective fun x : Word => x ^^^ x >>> n := by
  intro x y h
  have hz : (x ^^^ y) ^^^ (x ^^^ y) >>> n = 0 :=
    calc (x ^^^ y) ^^^ (x ^^^ y) >>> n
      _ = (x ^^^ x >>> n) ^^^ (y ^^^ y >>> n) := by rw [BitVec.ushiftRight_xor_distrib]; ac_rfl
      _ = 0 := BitVec.xor_eq_zero_iff.2 h
  exact BitVec.xor_eq_zero_iff.1 (eq_zero_of_eq_ushiftRight hn (BitVec.xor_eq_zero_iff.1 hz))

/-- Each step of the finalization at length 0 is injective: two odd factors and an XOR-shift. -/
theorem fin_zero_injective : Function.Injective fun s : Word => fin s 0 := by
  have h9 : Function.Injective fun x : Word => x * 9 := mul_injective_of_mul_eq_one (b := 954437177) rfl
  have h32769 : Function.Injective fun x : Word => x * 32769 :=
    mul_injective_of_mul_eq_one (b := 1073709057) rfl
  have hcomp : (fun s : Word => fin s 0) =
      (fun x : Word => x * 32769) ∘ (fun x : Word => x ^^^ x >>> 11) ∘ fun x : Word => x * 9 := by
    funext s
    simp [fin_eq_mul]
  rw [hcomp]
  exact h32769.comp ((xor_ushiftRight_injective (by decide)).comp h9)

theorem fin_zero_zero : fin 0 0 = 0 := rfl

theorem fin_zero_eq_zero_iff (s : Word) : fin s 0 = 0 ↔ s = 0 :=
  fin_zero_injective.eq_iff' fin_zero_zero

theorem mix_nil (s : Word) : mix s [] = fin s 0 := rfl

/-- Settles O34: an injective map of the 32-bit values to themselves is a bijection, and it maps 0 to 0. -/
theorem mixerAtLengthZero : Obligations.MixerAtLengthZero :=
  ⟨mix_nil, Finite.injective_iff_bijective.1 fin_zero_injective, fin_zero_zero, fin_zero_eq_zero_iff⟩

/-! ## A command's own step (R141) -/

theorem raise_commandWhileBusy (s : State) :
    s.raise .commandWhileBusy = { s with errBusy := true, everBusy := true } := by
  simp [State.raise]

/-- Settles O9: of the outcomes of `exec_cases`, a busy machine has only the first. -/
theorem everyCommandIsTurnedAwayWhileBusy : Obligations.EveryCommandIsTurnedAwayWhileBusy := by
  intro i s hb
  obtain ⟨t, ht⟩ := exec_next i s
  rcases exec_cases ht with ⟨_, rfl⟩ | ⟨hnot, _⟩ | ⟨hnot, _⟩
  · rw [ht, raise_commandWhileBusy]
  · cases hb.symm.trans hnot
  · cases hb.symm.trans hnot

/-- An idle machine accepts a command over a present buffer (R141). -/
theorem issue_present {s : State} (op : BitVec 3) (seed : Word) (hb : s.busy = false) :
    s.issue op seed true = s.accept op seed := by
  simp [State.issue, hb]

theorem exec_mix_of_idle {s : State} (hb : s.busy = false) : exec .mix s = .next (s.accept 1 s.seed) :=
  congrArg Host.Outcome.next (issue_present 1 s.seed hb)

/-- Settles O10: acceptance, written out. -/
theorem mixIsAccepted : Obligations.MixIsAccepted := fun _ hb => exec_mix_of_idle hb

/-! ## The sequencer's steps, forward (R142 to R145) -/

section Sequencer
variable {s : State}

theorem seqStep_of_idle (hp : s.phase = .idle) : seqStep s = .next s := by
  simp [seqStep, hp]

theorem seqStep_of_nextByte_none (hp : s.phase = .round) (hb : s.nextByte = none) :
    seqStep s = .next s :=
  seqStep_of_read_none hp ((nextByte_eq_none_iff s).1 hb)

theorem seqStep_of_nextByte {b : Byte} (hp : s.phase = .round) (hb : s.nextByte = some b) :
    seqStep s = .next (s.roundWith b) := by
  simp [seqStep, seqRound, hp, hb]

theorem seqStep_of_endPass1 (hp : s.phase = .final) (hlop : s.lop = 4) (hpass : s.pass = .first) :
    seqStep s = .next s.finalPass1 := by
  simp [seqStep, seqFinal, hp, hlop, hpass]

theorem seqStep_of_complete {r : DWord} (hp : s.phase = .final) (hn : ¬(s.lop = 4 ∧ s.pass = .first))
    (hr : resultOf s.lop s.r1 (fin s.h s.l32) = some r) : seqStep s = .next (s.completeWith r) := by
  simp only [seqStep, hp, seqFinal, if_neg hn, seqFinalComplete, hr]

end Sequencer

/-- A sequencer's turn under a latched length with the same low half: the same, but for `PHASE` (R104). -/
theorem seqStep_of_l32_eq {s t : State} {n : DWord} (hn : n.setWidth 32 = s.l32)
    (h : seqStep s = .next t) :
    ∃ p, seqStep { s with llen := n } = .next { t with llen := n, phase := p } := by
  have hl : ({ s with llen := n } : State).l32 = s.l32 := hn
  rcases seqStep_cases h with ⟨hp, rfl⟩ | ⟨hp, hb, rfl⟩ | ⟨hp, b, hb, rfl⟩ | ⟨hp, hlop, hpass, rfl⟩ |
    ⟨hp, hnot, r, hr, rfl⟩
  · exact ⟨_, seqStep_of_idle hp⟩
  · exact ⟨_, seqStep_of_nextByte_none hp hb⟩
  · refine ⟨(State.roundWith { s with llen := n } b).phase,
      (seqStep_of_nextByte (s := { s with llen := n }) hp hb).trans ?_⟩
    rw [State.roundWith, hl]
    rfl
  · refine ⟨startPhase n, (seqStep_of_endPass1 (s := { s with llen := n }) hp hlop hpass).trans ?_⟩
    rw [State.finalPass1, hl]
    rfl
  · have hr' : resultOf s.lop s.r1 (fin s.h ({ s with llen := n } : State).l32) = some r := hl ▸ hr
    refine ⟨.idle, (seqStep_of_complete (s := { s with llen := n }) hp hnot hr').trans ?_⟩
    rw [State.completeWith, hl]
    rfl

/-- Settles O33: the integers by the lemmas with a length of any size, the step by `seqStep_of_l32_eq`. -/
theorem onlyLowLengthBitsEnter : Obligations.OnlyLowLengthBitsEnter := by
  refine ⟨fun h b n => ⟨roundAdd_ofNat_toNat h b n, mixRound_ofNat_toNat h b n, fin_ofNat_toNat h n⟩, ?_⟩
  intro s t n hf hn h
  have hf' : ({ s with llen := n } : State).facing .seq := hf
  rw [step_of_facing hf] at h
  rw [step_of_facing hf']
  exact seqStep_of_l32_eq (s := s.popEvent) hn h

/-! ## A machine that is not refused goes on -/

theorem writeReg_next (r : Reg) (v : DWord) (s : State) : ∃ t, writeReg r v s = .next t := by
  cases r with
  | cmd => exact hostWriteCmd_next _ s
  | status | seed | base | len | result => exact ⟨_, rfl⟩

theorem hostWrite_next (addr width : Nat) (v : DWord) (s : State) :
    ∃ t, hostWrite addr width v s = .next t := by
  unfold hostWrite
  cases regAtBus s.cfg addr width with
  | none => exact ⟨_, rfl⟩
  | some r => exact writeReg_next r v s

/-- R145 names a RESULT for each of the four operations. -/
theorem exists_resultOf {op : BitVec 3} (hop : op = 1 ∨ op = 2 ∨ op = 3 ∨ op = 4) (r1 h : Word) :
    ∃ r, resultOf op r1 h = some r := by
  rcases hop with rfl | rfl | rfl | rfl <;> exact ⟨_, rfl⟩

/-- Under the invariant a running command has one of the four operations, so its turn is no fault (R163). -/
theorem State.Inv.seqStep_next {s : State} (hs : s.Inv) : ∃ t, seqStep s = .next t := by
  cases hp : s.phase with
  | idle => exact ⟨_, seqStep_of_idle hp⟩
  | round =>
    cases hb : s.nextByte with
    | none => exact ⟨_, seqStep_of_nextByte_none hp hb⟩
    | some b => exact ⟨_, seqStep_of_nextByte hp hb⟩
  | final =>
    by_cases hend : s.lop = 4 ∧ s.pass = .first
    · exact ⟨_, seqStep_of_endPass1 hp hend.1 hend.2⟩
    · have hop := hs.lopAssigned.resolve_left (hs.runningOp (by simp [hp]))
      obtain ⟨r, hr⟩ := exists_resultOf hop s.r1 (fin s.h s.l32)
      exact ⟨_, seqStep_of_complete hp hend hr⟩

/-- Settles O47: of the events, only the sequencer's turn can fail, and under the invariant it does not. -/
theorem unrefusedMachineGoesOn : Obligations.UnrefusedMachineGoesOn := by
  intro s hs hm
  rw [step_of_facing ⟨hm, rfl⟩]
  cases s.nextEvent with
  | read addr width => exact ⟨_, hostRead_eq addr width s.popEvent⟩
  | write addr width v => exact hostWrite_next addr width v s.popEvent
  | memWrite | reset => exact ⟨_, rfl⟩
  | seq => exact hs.popEvent.seqStep_next

/-! ## One pass over a readable buffer (R148) -/

/-- `s` is at the start of a pass over the readable buffer `d`, undisturbed, its host silent (R141, R144). -/
structure State.StartsPass (s : State) (d : List Byte) : Prop where
  phase : s.phase = startPhase s.llen
  idx : s.idx = 0
  undisturbed : s.disturbed = false
  unrefused : s.refusedMark = false
  quiet : s.events = []
  length : d.length = s.llen.toNat
  holds : holdsBuffer s.mem s.lbase d

/-- `s` after `k` rounds of a pass over `d`. -/
def State.afterRounds (s : State) (d : List Byte) (k : Nat) : State :=
  { s with
    h := rounds s.l32 s.h (d.take k)
    idx := BitVec.ofNat 64 k
    phase := if k = d.length then .final else .round
    memReads := passReads s.lbase k ++ s.memReads }

theorem passReads_succ (base : DWord) (k : Nat) :
    passReads base (k + 1) = byteAddr base (BitVec.ofNat 64 k) :: passReads base k := by
  simp [passReads, List.range_succ]

/-- Counting bytes up to the latched length does not wrap. -/
theorem ofNat_eq_iff_eq_toNat {k : Nat} {n : DWord} (hk : k ≤ n.toNat) :
    BitVec.ofNat 64 k = n ↔ k = n.toNat := by
  have hlt := n.isLt
  rw [← BitVec.toNat_inj, BitVec.toNat_ofNat, Nat.mod_eq_of_lt (by omega)]

namespace State.StartsPass
variable {s : State} {d : List Byte} (h : s.StartsPass d)
include h

theorem afterRounds_zero : s.afterRounds d 0 = s := by
  have hphase : (if 0 = d.length then Phase.final else .round) = s.phase := by
    rw [h.phase, startPhase, h.length]
    exact if_congr (by rw [← ofNat_eq_iff_eq_toNat (Nat.zero_le _)]; exact eq_comm) rfl rfl
  have hidx : BitVec.ofNat 64 0 = s.idx := h.idx.symm
  simp only [State.afterRounds, List.take_zero, rounds_nil, hphase, hidx]
  rfl

theorem nextByte_afterRounds {k : Nat} (hk : k < d.length) : (s.afterRounds d k).nextByte = some d[k] := by
  have hread : (s.afterRounds d k).mem.read (s.afterRounds d k).readAddr = some d[k] := h.holds k hk
  have hund : (s.afterRounds d k).disturbed = false := h.undisturbed
  simp [State.nextByte, hread, hund]

theorem roundWith_afterRounds {k : Nat} (hk : k < d.length) :
    (s.afterRounds d k).roundWith d[k] = s.afterRounds d (k + 1) := by
  have hh : mixRound (rounds s.l32 s.h (d.take k)) d[k] s.l32 = rounds s.l32 s.h (d.take (k + 1)) := by
    rw [List.take_succ_eq_append_getElem hk, rounds_concat]
  have hidx : BitVec.ofNat 64 k + 1 = BitVec.ofNat 64 (k + 1) := (BitVec.ofNat_add k 1).symm
  have hphase : (if BitVec.ofNat 64 (k + 1) = s.llen then Phase.final else
      if k = d.length then .final else .round) = if k + 1 = d.length then .final else .round := by
    rw [if_neg hk.ne]
    exact if_congr (h.length ▸ ofNat_eq_iff_eq_toNat (h.length ▸ hk)) rfl rfl
  have hl : (s.afterRounds d k).l32 = s.l32 := rfl
  have haddr : (s.afterRounds d k).readAddr = byteAddr s.lbase (BitVec.ofNat 64 k) := rfl
  rw [State.roundWith, hl, haddr]
  simp only [State.afterRounds, hh, hidx, hphase, h.undisturbed, passReads_succ, List.cons_append]
  rfl

theorem step_afterRounds {k : Nat} (hk : k < d.length) :
    step (s.afterRounds d k) = .next (s.afterRounds d (k + 1)) :=
  calc step (s.afterRounds d k)
    _ = seqStep (s.afterRounds d k) := step_of_quiet h.unrefused h.quiet
    _ = .next ((s.afterRounds d k).roundWith d[k]) :=
      seqStep_of_nextByte (if_neg hk.ne) (h.nextByte_afterRounds hk)
    _ = .next (s.afterRounds d (k + 1)) := by rw [h.roundWith_afterRounds hk]

/-- R148: the machine after each number of rounds up to the length. -/
theorem runSteps_eq {k : Nat} (hk : k ≤ d.length) : runSteps k s = .next (s.afterRounds d k) := by
  induction k with
  | zero => rw [runSteps_zero, h.afterRounds_zero]
  | succ k ih => rw [runSteps_add (ih (Nat.le_of_succ_le hk)), runSteps_of_step (h.step_afterRounds hk)]; rfl

theorem l32_eq : s.l32 = BitVec.ofNat 32 d.length := by
  rw [h.length, BitVec.ofNat_toNat, State.l32]

theorem fin_afterRounds : fin (s.afterRounds d d.length).h s.l32 = mix s.h d := by
  rw [State.afterRounds, List.take_length, h.l32_eq, mix]

/-- The FINAL step of a pass that completes its command, after all its rounds (R145, R149). -/
theorem runSteps_complete {r : DWord} (hn : ¬(s.lop = 4 ∧ s.pass = .first))
    (hr : resultOf s.lop s.r1 (mix s.h d) = some r) :
    runSteps (d.length + 1) s = .next ((s.afterRounds d d.length).completeWith r) := by
  have hfinal : (s.afterRounds d d.length).phase = .final := if_pos rfl
  have hr' : resultOf s.lop s.r1 (fin (s.afterRounds d d.length).h s.l32) = some r := by
    rw [h.fin_afterRounds, hr]
  have hstep : step (s.afterRounds d d.length) = .next ((s.afterRounds d d.length).completeWith r) :=
    (step_of_quiet (s := s.afterRounds d d.length) h.unrefused h.quiet).trans
      (seqStep_of_complete hfinal hn hr')
  rw [runSteps_add (h.runSteps_eq le_rfl), runSteps_of_step hstep]
  rfl

end State.StartsPass

/-! ## A command of one pass, from its acceptance to its completion -/

section OnePass
variable {s : State} {d : List Byte} (hready : s.ready) (hlen : d.length = s.len.toNat)
  (hbuf : holdsBuffer s.mem s.base d)
include hready hlen hbuf

/-- Acceptance starts a pass over the buffer at `BASE` (R141). -/
theorem accept_startsPass (op : BitVec 3) (seed : Word) : (s.accept op seed).StartsPass d := by
  obtain ⟨_, hmark, hquiet⟩ := hready
  exact ⟨rfl, rfl, rfl, hmark, hquiet, hlen, hbuf⟩

/-- R148, R149: an accepted command other than CHECKSUM64 ends after `LEN` + 1 steps, with the Mixer of its
seed in `H`. -/
theorem runSteps_accept {op : BitVec 3} {seed : Word} {r : DWord} (hop : op ≠ 4)
    (hr : resultOf op s.r1 (mix seed d) = some r) :
    runSteps (s.len.toNat + 1) (s.accept op seed) = .next
      { s with
        lop := op, lbase := s.base, llen := s.len, idx := s.len, pass := .first, phase := .idle
        h := mix seed d, result := r, done := true, disturbed := false
        memReads := passReads s.base s.len.toNat ++ s.memReads } := by
  have hpass := accept_startsPass hready hlen hbuf op seed
  have hh : fin ((s.accept op seed).afterRounds d d.length).h
      ((s.accept op seed).afterRounds d d.length).l32 = mix seed d := hpass.fin_afterRounds
  have hidx : BitVec.ofNat 64 s.len.toNat = s.len := (ofNat_eq_iff_eq_toNat le_rfl).2 rfl
  rw [← hlen, hpass.runSteps_complete (fun hend => hop hend.1) hr, State.completeWith, hh]
  simp only [State.afterRounds, State.accept, hlen, hidx]

end OnePass

/-- Settles O37: MIX is accepted, and its one pass ends with the Mixer of `SEED`, zero-extended. -/
theorem mixRunsToItsResult : Obligations.MixRunsToItsResult := fun s _ hready hlen hbuf =>
  ⟨s.accept 1 s.seed, exec_mix_of_idle hready.1, runSteps_accept hready hlen hbuf (by decide) rfl⟩

end Sys2Proof.Machine

/-! The family of the checksums (41_checksums.md): their own step and their values, CHECKSUM64 over its two
passes, and every command under a host that goes on meanwhile but keeps its duty on the buffer. -/

namespace Sys2Proof.Machine

/-! ## A command's own step (R120, R121, R141) -/

/-- The seed of a command's first pass (R110, R125 to R127). -/
def firstSeed (c : Config) (seed : Word) : Instr → Word
  | .mix => seed
  | .checksum16 _ => c.k1
  | .checksum32 _ => c.k2
  | .checksum64 _ => c.k3

theorem exec_eq_issue (i : Instr) (s : State) :
    exec i s = .next (s.issue i.command.op (firstSeed s.cfg s.seed i) (presentOf i)) := by
  cases i <;> rfl

theorem exec_of_present {i : Instr} {s : State} (hp : presentOf i = true) (hb : s.busy = false) :
    exec i s = .next (s.accept i.command.op (firstSeed s.cfg s.seed i)) := by
  rw [exec_eq_issue, hp, issue_present _ _ hb]

theorem exec_of_absent {i : Instr} {s : State} (hp : presentOf i = false) (hb : s.busy = false) :
    exec i s = .next s.completeNull := by
  simp [exec_eq_issue, State.issue, hp, hb]

/-- Settles O11: acceptance, written out. -/
theorem presentChecksumIsAccepted : Obligations.PresentChecksumIsAccepted := fun _ hb =>
  ⟨exec_of_present rfl hb, exec_of_present rfl hb, exec_of_present rfl hb⟩

/-- Settles O12: the null shortcut, written out. -/
theorem nullChecksumCompletesAtOnce : Obligations.NullChecksumCompletesAtOnce := fun _ hb =>
  ⟨exec_of_absent rfl hb, exec_of_absent rfl hb, exec_of_absent rfl hb, fun _ => ⟨rfl, rfl, rfl⟩⟩

/-! ## The layout of RESULT (R128) -/

/-- The low bits of a sign extension are the value extended. -/
theorem extractLsb'_signExtend {w v : Nat} (h : w ≤ v) (x : BitVec w) :
    (x.signExtend v).extractLsb' 0 w = x := by
  ext i hi
  simp [BitVec.getElem_signExtend, hi, hi.trans_le h]

/-- A pair of words as a signed integer: the high word carries the sign. -/
theorem toInt_append_words (r1 r : Word) :
    (r1 ++ r : BitVec 64).toInt = r1.toInt * 2 ^ 32 + r.toNat := by
  rw [BitVec.toInt_append, if_neg (by decide), Int.mul_comm]

/-- Settles O36: each operation's RESULT by its lemma of extension or pairing, and the null shortcut's is 0. -/
theorem resultLayout : Obligations.ResultLayout := by
  refine ⟨fun r1 r => ⟨?_, ?_, ?_, ?_⟩, ?_⟩
  · refine ⟨_, rfl, rfl, BitVec.toInt_signExtend_of_le (by decide), ?_⟩
    rw [extractLsb'_signExtend (by decide)]
  · refine ⟨_, rfl, rfl, BitVec.toInt_signExtend_of_le (by decide), ?_⟩
    rw [extractLsb'_signExtend (by decide)]
  · exact ⟨_, rfl, BitVec.extractLsb'_append_eq_left, BitVec.extractLsb'_append_eq_right,
      toInt_append_words r1 r⟩
  · refine ⟨_, rfl, rfl, ?_, BitVec.toNat_setWidth_of_le (by decide)⟩
    rw [← BitVec.setWidth_eq_extractLsb' (by decide), BitVec.setWidth_setWidth_of_le _ (by decide),
      BitVec.setWidth_eq]
  · intro i s hp hb
    exact ⟨_, exec_of_absent hp hb, rfl⟩

/-! ## Checksum64 of the empty buffer (R130) -/

theorem append_words_eq_zero_iff (r1 r : Word) : (r1 ++ r : BitVec 64) = 0 ↔ r1 = 0 ∧ r = 0 := by
  constructor
  · intro h
    constructor
    · rw [← BitVec.extractLsb'_append_eq_left (a := r1) (b := r), h]; rfl
    · rw [← BitVec.extractLsb'_append_eq_right (a := r1) (b := r), h]; rfl
  · rintro ⟨rfl, rfl⟩
    rfl

/-- The second pass starts from the first one's result, so both results are 0 only where both seeds are. -/
theorem checksum64_nil_pair_eq_zero_iff (c : Config) :
    (fin c.k3 0 ++ fin (fin c.k3 0 ^^^ c.k4) 0 : BitVec 64) = 0 ↔ c.k3 = 0 ∧ c.k4 = 0 := by
  rw [append_words_eq_zero_iff, fin_zero_eq_zero_iff, fin_zero_eq_zero_iff]
  refine and_congr_right fun hk3 => ?_
  rw [hk3, fin_zero_zero]
  simp

/-- Settles O35: at length 0 a pass is finalization, which maps only 0 to 0. -/
theorem checksum64OfEmptyBuffer : Obligations.Checksum64OfEmptyBuffer :=
  ⟨fun c _ _ => ⟨rfl, checksum64_nil_pair_eq_zero_iff c,
    (BitVec.toInt_inj (y := 0)).trans (checksum64_nil_pair_eq_zero_iff c)⟩, fun _ _ => rfl⟩

/-! ## CHECKSUM16 and CHECKSUM32: one pass -/

/-- Settles O38: one pass with the seed `K1`; widening the fold keeps its signed value. -/
theorem checksum16RunsToItsResult : Obligations.Checksum16RunsToItsResult := fun _ _ hready hlen hbuf =>
  ⟨_, exec_of_present rfl hready.1, runSteps_accept hready hlen hbuf (by decide) rfl,
    BitVec.toInt_signExtend_of_le (by decide)⟩

/-- Settles O39: one pass with the seed `K2`; widening the hash keeps its signed value. -/
theorem checksum32RunsToItsResult : Obligations.Checksum32RunsToItsResult := fun _ _ hready hlen hbuf =>
  ⟨_, exec_of_present rfl hready.1, runSteps_accept hready hlen hbuf (by decide) rfl,
    BitVec.toInt_signExtend_of_le (by decide)⟩

/-! ## CHECKSUM64: two passes (R144, R148) -/

/-- `s` after the first pass of CHECKSUM64 over `d`, at the start of the second (R144). -/
def State.afterPass1 (s : State) (d : List Byte) : State := (s.afterRounds d d.length).finalPass1

namespace State.StartsPass
variable {s : State} {d : List Byte} (h : s.StartsPass d)
include h

theorem fin_l32_afterRounds :
    fin (s.afterRounds d d.length).h (s.afterRounds d d.length).l32 = mix s.h d := h.fin_afterRounds

theorem afterPass1_eq :
    s.afterPass1 d =
      { s with
        r1 := mix s.h d, h := mix s.h d ^^^ s.cfg.k4, idx := 0, pass := .second
        phase := startPhase s.llen, memReads := passReads s.lbase d.length ++ s.memReads } := by
  rw [State.afterPass1, State.finalPass1, h.fin_l32_afterRounds]
  rfl

/-- The second pass is over the same buffer, from its first byte again (R144). -/
theorem afterPass1_startsPass : (s.afterPass1 d).StartsPass d :=
  ⟨rfl, rfl, h.undisturbed, h.unrefused, h.quiet, h.length, h.holds⟩

theorem runSteps_afterPass1 (hlop : s.lop = 4) (hpass : s.pass = .first) :
    runSteps (d.length + 1) s = .next (s.afterPass1 d) := by
  have hstep : step (s.afterRounds d d.length) = .next (s.afterPass1 d) :=
    (step_of_quiet (s := s.afterRounds d d.length) h.unrefused h.quiet).trans
      (seqStep_of_endPass1 (if_pos rfl) hlop hpass)
  rw [runSteps_add (h.runSteps_eq le_rfl), runSteps_of_step hstep]
  rfl

/-- The state a pass leaves that completes its command, field by field. -/
theorem completeWith_eq (r : DWord) :
    (s.afterRounds d d.length).completeWith r =
      { s with
        h := mix s.h d, idx := s.llen, phase := .idle, pass := .first, result := r, done := true
        memReads := passReads s.lbase d.length ++ s.memReads } := by
  have hidx : BitVec.ofNat 64 d.length = s.llen := by
    rw [h.length]; exact (ofNat_eq_iff_eq_toNat le_rfl).2 rfl
  rw [State.completeWith, h.fin_l32_afterRounds]
  simp only [State.afterRounds, hidx]

end State.StartsPass

/-- Settles O40: the first pass from `K3`, the second from its result and `K4`, over the same bytes. -/
theorem checksum64RunsToItsResult : Obligations.Checksum64RunsToItsResult := by
  intro s d hready hlen hbuf
  have h1 : (s.accept 4 s.cfg.k3).StartsPass d := accept_startsPass hready hlen hbuf 4 s.cfg.k3
  have h2 := h1.afterPass1_startsPass
  refine ⟨s.accept 4 s.cfg.k3, exec_of_present rfl hready.1, ?_, rfl⟩
  have hsteps : 2 * s.len.toNat + 2 = (d.length + 1) + (d.length + 1) := by omega
  have hn : ¬(((s.accept 4 s.cfg.k3).afterPass1 d).lop = 4 ∧
      ((s.accept 4 s.cfg.k3).afterPass1 d).pass = .first) := fun hend => nomatch hend.2
  rw [hsteps, runSteps_add (h1.runSteps_afterPass1 rfl rfl), h2.runSteps_complete hn rfl,
    h2.completeWith_eq, h1.afterPass1_eq, ← hlen, List.append_assoc]
  rfl

/-! ## A command of any kind under a silent host (R149) -/

theorem runSteps_one (s : State) : runSteps 1 s = step s := by
  rw [runSteps_succ]
  cases step s <;> rfl

/-- For its next `n` steps the machine `s` is busy, with DONE and RESULT as they are. -/
def State.BusyFor (s : State) (n : Nat) : Prop :=
  ∀ k < n, ∃ t, runSteps k s = .next t ∧ t.busy = true ∧ t.done = s.done ∧ t.result = s.result

theorem State.BusyFor.busy {s : State} {n : Nat} (h : s.BusyFor (n + 1)) : s.busy = true := by
  obtain ⟨_, ht, hbusy, _⟩ := h 0 (Nat.succ_pos n)
  cases ht
  exact hbusy

/-- A machine that is busy for longer takes its next step to one that is busy for the rest. -/
theorem State.BusyFor.step {s : State} {n : Nat} (h : s.BusyFor (n + 2)) :
    ∃ u, step s = .next u ∧ u.BusyFor (n + 1) := by
  obtain ⟨u, hu, _, hd, hr⟩ := h 1 (by omega)
  have hstep : Machine.step s = .next u := (runSteps_one s).symm.trans hu
  refine ⟨u, hstep, fun k hk => ?_⟩
  obtain ⟨t, ht, hbusy, hdone, hresult⟩ := h (k + 1) (by omega)
  exact ⟨t, (runSteps_of_step hstep).symm.trans ht, hbusy, hdone.trans hd.symm, hresult.trans hr.symm⟩

theorem State.StartsPass.busyFor {s : State} {d : List Byte} (h : s.StartsPass d) :
    s.BusyFor (d.length + 1) := by
  intro k hk
  refine ⟨_, h.runSteps_eq (Nat.le_of_lt_succ hk), (busy_iff _).2 ?_, rfl, rfl⟩
  show (if k = d.length then Phase.final else .round) ≠ .idle
  split <;> decide

/-- A busy machine that `a` steps take to another one, itself busy for `b` steps, is busy for all of them. -/
theorem State.BusyFor.add {s t : State} {a b : Nat} (hs : s.BusyFor a) (h : runSteps a s = .next t)
    (hdone : t.done = s.done) (hresult : t.result = s.result) (ht : t.BusyFor b) : s.BusyFor (a + b) := by
  intro k hk
  by_cases hka : k < a
  · exact hs k hka
  · obtain ⟨u, hu, hbusy, hd, hr⟩ := ht (k - a) (by omega)
    refine ⟨u, ?_, hbusy, hd.trans hdone, hr.trans hresult⟩
    rw [← Nat.add_sub_of_le (Nat.le_of_not_lt hka), runSteps_add h, hu]

section Silent
variable {s : State} {d : List Byte} (hready : s.ready) (hlen : d.length = s.len.toNat)
  (hbuf : holdsBuffer s.mem s.base d)
include hready hlen hbuf

/-- R149: an accepted command is busy until its last step. -/
theorem accept_busyFor (i : Instr) :
    (s.accept i.command.op (firstSeed s.cfg s.seed i)).BusyFor (passesOf i * (s.len.toNat + 1)) := by
  have h1 := accept_startsPass hready hlen hbuf i.command.op (firstSeed s.cfg s.seed i)
  cases i with
  | mix | checksum16 | checksum32 =>
    rw [passesOf, Nat.one_mul, ← hlen]
    exact h1.busyFor
  | checksum64 =>
    rw [passesOf, Nat.two_mul, ← hlen]
    exact h1.busyFor.add (h1.runSteps_afterPass1 rfl rfl) rfl rfl h1.afterPass1_startsPass.busyFor

/-- R148, R149: and its last step completes it with its own RESULT. -/
theorem runSteps_accept_result {i : Instr} (hp : presentOf i = true) :
    ∃ t, runSteps (passesOf i * (s.len.toNat + 1)) (s.accept i.command.op (firstSeed s.cfg s.seed i)) =
        .next t ∧ t.result = resultFor s.cfg s.seed d i ∧ t.done = true ∧ t.busy = false := by
  cases i with
  | mix | checksum16 | checksum32 =>
    rw [passesOf, Nat.one_mul]
    exact ⟨_, runSteps_accept hready hlen hbuf (by simp [Instr.command]) rfl, rfl, rfl, rfl⟩
  | checksum64 p =>
    cases hp
    obtain ⟨s1, hs1, hrun, _⟩ := checksum64RunsToItsResult s d hready hlen hbuf
    cases (exec_of_present (i := .checksum64 true) rfl hready.1).symm.trans hs1
    exact ⟨_, hrun, rfl, rfl, rfl⟩

end Silent

/-! ## What the host does meanwhile (R68, R148, R186)

A machine whose host keeps its duty on the buffer differs from one whose host is silent only in what the
sequencer does not look at, so it goes the same way, one turn of the sequencer for each of the other's. -/

/-- An event that keeps the duty changes no byte of the buffer. -/
theorem Event.keepsDuty.read_writeMem {c : Config} {base len : DWord} {e : Event}
    (h : e.keepsDuty c base len) {i : DWord} (hi : i < len) (m : Memory) :
    (e.writeMem m).read (byteAddr base i) = m.read (byteAddr base i) := by
  rcases h with rfl | hreg | ⟨a, b, rfl, hout⟩
  · rfl
  · cases e with
    | memWrite => exact hreg.elim
    | read | write | seq | reset => rfl
  · exact Memory.read_write_other m a _ b (hout i hi).symm

/-- What the sequencer works on and leaves: `s` with everything erased that a host keeping its duty can write
while a command runs. -/
def State.sequencerView (s : State) : State :=
  { s with
    errIllegal := false, errBusy := false, seed := 0, base := 0, len := 0, mem := []
    everIllegal := false, everBusy := false, events := [], hostReads := [] }

/-- The host's write to a register of a busy machine (R147, R162) does not reach the sequencer. -/
theorem writeReg_sequencerView {s : State} (hb : s.busy = true) (r : Reg) (v : DWord) :
    ∃ t, writeReg r v s = .next t ∧ t.sequencerView = s.sequencerView := by
  cases r with
  | cmd => exact ⟨s.raise .commandWhileBusy, by simp [writeReg, hostWriteCmd, hb], rfl⟩
  | status | seed | base | len | result => exact ⟨_, rfl, rfl⟩

/-- Nor does any event of a host that keeps its duty on the running command's buffer. -/
theorem step_of_keepsDuty {s : State} {e : Event} (hf : s.facing e) (hb : s.busy = true)
    (he : e.keepsDuty s.cfg s.lbase s.llen) (hne : e ≠ .seq) :
    ∃ t, step s = .next t ∧ t.sequencerView = s.sequencerView := by
  rcases he with rfl | hreg | ⟨a, b, rfl, hout⟩
  · exact absurd rfl hne
  · cases e with
    | read addr width =>
      obtain ⟨r, hr⟩ := Option.isSome_iff_exists.1 hreg
      obtain ⟨rfl, rfl⟩ := regAtBus_some hr
      exact ⟨_, step_of_rd hf, rfl⟩
    | write addr width v =>
      obtain ⟨r, hr⟩ := Option.isSome_iff_exists.1 hreg
      obtain ⟨rfl, rfl⟩ := regAtBus_some hr
      rw [step_of_wr hf]
      exact writeReg_sequencerView (s := s.popEvent) hb r v
    | memWrite | seq | reset => exact hreg.elim
  · refine ⟨s.popEvent.hostMemWrite a b, step_of_facing hf, ?_⟩
    rw [hostMemWrite_outside (s := s.popEvent) b hout]
    rfl

/-- What does not look at the erased fields is the same under the same view. -/
theorem sequencerView_congr {α : Type} {s t : State} (f : State → α) (hf : ∀ x, f x.sequencerView = f x)
    (hv : t.sequencerView = s.sequencerView) : f t = f s := by
  rw [← hf t, hv, hf s]

/-- A turn of the sequencer goes by its view and by the byte it reads. -/
theorem seqStep_sequencerView {s t u : State} (hv : t.sequencerView = s.sequencerView)
    (hb : s.phase = .round → t.nextByte = s.nextByte) (h : seqStep s = .next u) :
    ∃ w, seqStep t = .next w ∧ w.sequencerView = u.sequencerView := by
  have hphase : t.phase = s.phase := sequencerView_congr State.phase (fun _ => rfl) hv
  have hlop : t.lop = s.lop := sequencerView_congr State.lop (fun _ => rfl) hv
  have hpass : t.pass = s.pass := sequencerView_congr State.pass (fun _ => rfl) hv
  rcases seqStep_cases h with ⟨hp, rfl⟩ | ⟨hp, hn, rfl⟩ | ⟨hp, b, hn, rfl⟩ | ⟨hp, h4, h1, rfl⟩ |
    ⟨hp, hnot, r, hr, rfl⟩
  · exact ⟨t, seqStep_of_idle (hphase.trans hp), hv⟩
  · exact ⟨t, seqStep_of_nextByte_none (hphase.trans hp) ((hb hp).trans hn), hv⟩
  · exact ⟨_, seqStep_of_nextByte (hphase.trans hp) ((hb hp).trans hn),
      congrArg (State.roundWith · b) hv⟩
  · exact ⟨_, seqStep_of_endPass1 (hphase.trans hp) (hlop.trans h4) (hpass.trans h1),
      congrArg State.finalPass1 hv⟩
  · have hr' : resultOf t.lop t.r1 (fin t.h t.l32) = some r :=
      (sequencerView_congr (fun x => resultOf x.lop x.r1 (fin x.h x.l32)) (fun _ => rfl) hv).trans hr
    exact ⟨_, seqStep_of_complete (hphase.trans hp) (by rw [hlop, hpass]; exact hnot) hr',
      congrArg (State.completeWith · r) hv⟩

/-- `t`, whatever its host does, is where the machine `s` with a silent host is: the sequencer sees the same,
and the buffer of the running command reads the same. -/
structure State.Follows (t s : State) : Prop where
  view : t.sequencerView = s.sequencerView
  bytes : ∀ i < s.llen, t.mem.read (byteAddr s.lbase i) = s.mem.read (byteAddr s.lbase i)
  roundIdx : s.phase = .round → s.idx < s.llen
  quiet : s.events = []
  unrefused : s.refusedMark = false

namespace State.Follows
variable {t s : State} (h : t.Follows s)
include h

theorem nextByte_eq (hp : s.phase = .round) : t.nextByte = s.nextByte := by
  have haddr : t.readAddr = byteAddr s.lbase s.idx :=
    sequencerView_congr State.readAddr (fun _ => rfl) h.view
  have hread : t.mem.read t.readAddr = s.mem.read s.readAddr := haddr ▸ h.bytes s.idx (h.roundIdx hp)
  have hdist : t.disturbed = s.disturbed := sequencerView_congr State.disturbed (fun _ => rfl) h.view
  have hdraws : t.draws = s.draws := sequencerView_congr State.draws (fun _ => rfl) h.view
  simp only [State.nextByte, hread, hdist, hdraws]

theorem refusedMark_eq : t.refusedMark = false :=
  (sequencerView_congr State.refusedMark (fun _ => rfl) h.view).trans h.unrefused

/-- Its sequencer's turn follows the silent machine's step. -/
theorem step_seq {u : State} (he : t.nextEvent = .seq) (hu : step s = .next u) :
    ∃ w, step t = .next w ∧ w.Follows u := by
  have hturn : seqStep s = .next u := (step_of_quiet h.unrefused h.quiet).symm.trans hu
  obtain ⟨w, hw, hview⟩ := seqStep_sequencerView (t := t.popEvent) h.view h.nextByte_eq hturn
  have hstep : step t = .next w := (step_of_facing ⟨h.refusedMark_eq, he⟩).trans hw
  have hmem : w.mem = t.mem := by rw [step_mem hstep, he]; rfl
  refine ⟨w, hstep, ?_⟩
  rcases seqStep_cases hturn with ⟨hp, rfl⟩ | ⟨hp, hn, rfl⟩ | ⟨hp, b, hn, rfl⟩ | ⟨hp, h4, h1, rfl⟩ |
    ⟨hp, hnot, r, hr, rfl⟩
  · exact { h with view := hview, bytes := hmem ▸ h.bytes }
  · exact { h with view := hview, bytes := hmem ▸ h.bytes }
  · refine { h with view := hview, bytes := hmem ▸ h.bytes, roundIdx := fun hround => ?_ }
    have hne : s.idx + 1 ≠ s.llen := fun hend => by
      rw [roundWith_phase, if_pos hend] at hround
      cases hround
    exact add_one_lt_of_lt_of_ne (h.roundIdx hp) hne
  · exact { h with view := hview, bytes := hmem ▸ h.bytes, roundIdx := pos_of_startPhase_round }
  · exact { h with view := hview, bytes := hmem ▸ h.bytes, roundIdx := fun hround => nomatch hround }

/-- Its host's events that keep the duty leave it following the silent machine where that is. -/
theorem step_host (hb : s.busy = true) (he : t.nextEvent.keepsDuty s.cfg s.lbase s.llen)
    (hne : t.nextEvent ≠ .seq) : ∃ w, step t = .next w ∧ w.Follows s := by
  have hbusy : t.busy = true := (sequencerView_congr State.busy (fun _ => rfl) h.view).trans hb
  have hduty : t.nextEvent.keepsDuty t.cfg t.lbase t.llen :=
    (sequencerView_congr (fun x => t.nextEvent.keepsDuty x.cfg x.lbase x.llen) (fun _ => rfl) h.view).mpr he
  obtain ⟨w, hw, hview⟩ := step_of_keepsDuty ⟨h.refusedMark_eq, rfl⟩ hbusy hduty hne
  refine ⟨w, hw, { h with view := hview.trans h.view, bytes := fun i hi => ?_ }⟩
  rw [step_mem hw, he.read_writeMem hi, h.bytes i hi]

end State.Follows

/-- The latched operands and the parameters of a running command, which its duty speaks of, stay (R35, R37). -/
theorem step_keeps_latched {s u : State} (h : step s = .next u) (hb : s.busy = true)
    (hne : s.nextEvent ≠ .reset) : u.cfg = s.cfg ∧ u.lbase = s.lbase ∧ u.llen = s.llen :=
  have hlatched := (operandsChangeOnlyByTheHost s u h hne).1 hb
  ⟨configurationNeverChanges s u h, hlatched.2.1, hlatched.2.2⟩

/-- A schedule that keeps the duty takes a machine to where its turns of the sequencer take the silent one. -/
theorem State.Follows.runSteps {es rest : List Event} {t s : State} (h : t.Follows s)
    (hev : t.events = es ++ rest) (hduty : ∀ e ∈ es, e.keepsDuty s.cfg s.lbase s.llen)
    (hbusy : s.BusyFor (es.count .seq + 1)) :
    ∃ w u, runSteps es.length t = .next w ∧ runSteps (es.count .seq) s = .next u ∧ w.Follows u ∧
      w.events = rest ∧ w.mem = hostWrites t.mem es := by
  induction es generalizing t s with
  | nil => exact ⟨t, s, rfl, rfl, h, hev, rfl⟩
  | cons e es ih =>
    have hnext : t.nextEvent = e := by rw [State.nextEvent, hev]; rfl
    have htail {w : State} (hw : step t = .next w) : w.events = es ++ rest := by rw [step_events hw, hev]; rfl
    have hmem {w : State} (hw : step t = .next w) : w.mem = e.writeMem t.mem := hnext ▸ step_mem hw
    have hrest : ∀ e' ∈ es, e'.keepsDuty s.cfg s.lbase s.llen := fun e' he' => hduty e' (.tail e he')
    by_cases hseq : e = .seq
    · subst hseq
      rw [List.count_cons_self] at hbusy ⊢
      obtain ⟨s', hs', hbusy'⟩ := hbusy.step
      obtain ⟨t', ht', h'⟩ := h.step_seq hnext hs'
      have hnoReset : s.nextEvent ≠ .reset := nextEvent_ne_reset (by simp [h.quiet])
      obtain ⟨hcfg, hlbase, hllen⟩ := step_keeps_latched hs' hbusy.busy hnoReset
      obtain ⟨w, u, hw, hu, hfollows, hevents, hwrites⟩ :=
        ih h' (htail ht') (by rwa [hcfg, hlbase, hllen]) hbusy'
      exact ⟨w, u, (runSteps_of_step ht').trans hw, (runSteps_of_step hs').trans hu, hfollows, hevents,
        hwrites.trans (congrArg (hostWrites · es) (hmem ht'))⟩
    · rw [List.count_cons_of_ne hseq] at hbusy ⊢
      obtain ⟨t', ht', h'⟩ := h.step_host hbusy.busy (hnext ▸ hduty e (.head es)) (hnext ▸ hseq)
      obtain ⟨w, u, hw, hu, hfollows, hevents, hwrites⟩ := ih h' (htail ht') hrest hbusy
      exact ⟨w, u, (runSteps_of_step ht').trans hw, hu, hfollows, hevents,
        hwrites.trans (congrArg (hostWrites · es) (hmem ht'))⟩

/-- R148, R149: under any schedule that keeps the duty, an accepted command completes at its last turn of the
sequencer with its own RESULT, and memory holds the host's writes. -/
theorem runSteps_schedule {i : Instr} {s : State} {d : List Byte} {es : List Event} (rest : List Event)
    (hb : s.busy = false) (hm : s.refusedMark = false) (hp : presentOf i = true)
    (hlen : d.length = s.len.toNat) (hbuf : holdsBuffer s.mem s.base d) (hsch : s.scheduleFor i es) :
    ∃ t, runSteps (es.length + 1)
        { s.accept i.command.op (firstSeed s.cfg s.seed i) with events := es ++ .seq :: rest } = .next t ∧
      t.result = resultFor s.cfg s.seed d i ∧ t.done = true ∧ t.busy = false ∧ t.events = rest ∧
      t.mem = hostWrites s.mem es := by
  obtain ⟨hduty, hturns⟩ := hsch
  have hready : ({ s with events := [] } : State).ready := ⟨hb, hm, rfl⟩
  have hbusy := accept_busyFor hready hlen hbuf i
  obtain ⟨v, hv, hresult, hdone, hidle⟩ := runSteps_accept_result hready hlen hbuf hp
  rw [← hturns] at hbusy hv
  have hfollows : State.Follows
      { s.accept i.command.op (firstSeed s.cfg s.seed i) with events := es ++ .seq :: rest }
      (State.accept { s with events := [] } i.command.op (firstSeed s.cfg s.seed i)) :=
    ⟨rfl, fun _ _ => rfl, pos_of_startPhase_round, rfl, hm⟩
  obtain ⟨w, u, hw, hu, hwu, hevents, hwrites⟩ := hfollows.runSteps rfl hduty hbusy
  have huv : step u = .next v := (runSteps_one u).symm.trans ((runSteps_add hu).symm.trans hv)
  have hnext : w.nextEvent = .seq := by rw [State.nextEvent, hevents]
  obtain ⟨t, ht, htv⟩ := hwu.step_seq hnext huv
  refine ⟨t, (runSteps_add hw).trans (runSteps_of_step ht), ?_, ?_, ?_, ?_, ?_⟩
  · exact (sequencerView_congr State.result (fun _ => rfl) htv.view).trans hresult
  · exact (sequencerView_congr State.done (fun _ => rfl) htv.view).trans hdone
  · exact (sequencerView_congr State.busy (fun _ => rfl) htv.view).trans hidle
  · rw [step_events ht, hevents]; rfl
  · rw [step_mem ht, hnext]; exact hwrites

/-- RESULT is a matter of the seeds the command mixes with and of the bytes (R129). -/
theorem resultFor_congr {c c' : Config} {seed seed' : Word} (d : List Byte) {i : Instr} (h1 : c.k1 = c'.k1)
    (h2 : c.k2 = c'.k2) (h3 : c.k3 = c'.k3) (h4 : c.k4 = c'.k4) (hseed : i = .mix → seed = seed') :
    resultFor c seed d i = resultFor c' seed' d i := by
  cases i with
  | mix => rw [resultFor, resultFor, hseed rfl]
  | checksum16 => rw [resultFor, resultFor, h1]
  | checksum32 => rw [resultFor, resultFor, h2]
  | checksum64 => simp only [resultFor, checksum64Pass1, checksum64Pass2, h3, h4]

/-- Settles O44: each machine completes with the command's own RESULT, a function of the seeds and the bytes. -/
theorem resultDependsOnBufferAlone : Obligations.ResultDependsOnBufferAlone := by
  intro i s u hbs hbu h1 h2 h3 h4
  refine ⟨?_, fun habsent => ⟨_, _, exec_of_absent habsent hbs, exec_of_absent habsent hbu, rfl⟩⟩
  intro hp hseed hms hmu d es fs restS restU hls hlu hds hdu hes hfs
  obtain ⟨t, ht, hresT, hdoneT, _⟩ := runSteps_schedule restS hbs hms hp hls hds hes
  obtain ⟨v, hv, hresV, hdoneV, _⟩ := runSteps_schedule restU hbu hmu hp hlu hdu hfs
  exact ⟨_, _, t, v, exec_of_present hp hbs, exec_of_present hp hbu, ht, hv, hdoneT, hdoneV,
    hresT.trans ((resultFor_congr d h1 h2 h3 h4 hseed).trans hresV.symm)⟩

end Sys2Proof.Machine

/-! The family of the sequencer (42_sequencer.md): the host's `CMD` write and its register accesses, the
sequencer's turns one by one, and a command from its acceptance to the end of its run. -/

namespace Sys2Proof.Machine

/-! ## One pass and whole commands (R148, R149) -/

/-- A pass over at least one byte starts in ROUND (R141). -/
theorem startPhase_of_pos {len : DWord} (h : 0 < len.toNat) : startPhase len = .round :=
  if_neg fun h0 => by simp [h0] at h

/-- Settles O41: the state is at the start of a pass, and `State.StartsPass.runSteps_eq` counts its rounds. -/
theorem hashAfterEachRound : Obligations.HashAfterEachRound := by
  intro s d k hp hidx hund hmark hquiet hpos hlen hbuf hk
  have hphase : s.phase = startPhase s.llen := hp.trans (startPhase_of_pos (hlen ▸ hpos)).symm
  have hstart : s.StartsPass d := ⟨hphase, hidx, hund, hmark, hquiet, hlen, hbuf⟩
  exact hstart.runSteps_eq hk

/-- Settles O43: acceptance, and `runSteps_schedule` under the host's schedule. -/
theorem everyScheduleGivesTheResult : Obligations.EveryScheduleGivesTheResult :=
  fun _ _ _ _ rest hb hmark hp hlen hbuf hsch =>
    ⟨_, exec_of_present hp hb, runSteps_schedule rest hb hmark hp hlen hbuf hsch⟩

/-- `t` has the schedule of `s`, its error bits, and its marks and records of misuse. -/
structure State.SameMisuse (s t : State) : Prop where
  events : t.events = s.events
  refusedMark : t.refusedMark = s.refusedMark
  everRefused : t.everRefused = s.everRefused
  errIllegal : t.errIllegal = s.errIllegal
  errBusy : t.errBusy = s.errBusy
  everIllegal : t.everIllegal = s.everIllegal
  everBusy : t.everBusy = s.everBusy

/-- No turn of the sequencer raises a cause or marks an access as refused (R163). -/
theorem seqStep_sameMisuse {s t u : State} (hst : s.SameMisuse t) (h : seqStep t = .next u) :
    s.SameMisuse u := by
  rcases seqStep_cases h with ⟨_, rfl⟩ | ⟨_, _, rfl⟩ | ⟨_, b, _, rfl⟩ | ⟨_, _, _, rfl⟩ | ⟨_, _, r, _, rfl⟩
  · exact hst
  · exact hst
  · exact { hst with }
  · exact { hst with }
  · exact { hst with }

/-- While the host is silent, no number of steps raises a cause or marks an access as refused. -/
theorem runSteps_sameMisuse {k : Nat} {s t : State} (hmark : s.refusedMark = false) (hquiet : s.events = [])
    (h : runSteps k s = .next t) : s.SameMisuse t :=
  runSteps_keeps (P := s.SameMisuse)
    (fun _ _ hst hu => seqStep_sameMisuse hst
      ((step_of_quiet (hst.refusedMark.trans hmark) (hst.events.trans hquiet)).symm.trans hu))
    ⟨rfl, rfl, rfl, rfl, rfl, rfl, rfl⟩ h

/-- The run has ended when an idle machine has a silent host and no access was refused (R191). -/
theorem State.ready.runEnded {s : State} (h : s.ready) (hr : s.everRefused = false) : s.runEnded := by
  obtain ⟨hb, hmark, hquiet⟩ := h
  exact ⟨by simp [hquiet], (not_busy_iff s).1 hb, hmark, hr⟩

/-- Settles O42: the null shortcut leaves a ready state; an accepted command is `State.BusyFor` its steps, and
the last of them leaves a ready state without misuse. -/
theorem sequencerStepCounts : Obligations.SequencerStepCounts := by
  intro i s hready
  have ⟨hb, hmark, hquiet⟩ := hready
  refine ⟨fun hp => ⟨s.completeNull, exec_of_absent hp hb, hb, rfl, rfl, ?_⟩, fun hp d hlen hbuf => ?_⟩
  · exact State.ready.runEnded (s := s.completeNull) hready
  obtain ⟨t, ht, _, hdone, hidle⟩ := runSteps_accept_result hready hlen hbuf hp
  have hsame := runSteps_sameMisuse (s := s.accept _ _) hmark hquiet ht
  have htready : t.ready := ⟨hidle, hsame.refusedMark.trans hmark, hsame.events.trans hquiet⟩
  refine ⟨_, exec_of_present hp hb, accept_busyFor hready hlen hbuf i, t, ht, hidle, hdone,
    hsame.everRefused, fun hr => ?_, fun ⟨hillegal, hbusy⟩ => ?_⟩
  · have hended := htready.runEnded (hsame.everRefused.trans hr)
    exact ⟨hended, fun hi he => ⟨hended, hsame.errIllegal.trans hi, hsame.errBusy.trans he⟩⟩
  · exact ⟨hsame.everIllegal.trans hillegal, hsame.everBusy.trans hbusy⟩

/-! ## The `CMD` write (R141) -/

theorem hostWriteCmd_of_busy (w : Word) {s : State} (hb : s.busy = true) :
    hostWriteCmd w s = .next (s.raise .commandWhileBusy) := by
  simp [hostWriteCmd, hb]

/-- Busy or not, a `CMD` write of a word that decodes is the instruction's own meaning. -/
theorem hostWriteCmd_of_decode {w : Word} {i : Instr} (s : State) (h : decode w = .ok i) :
    hostWriteCmd w s = exec i s := by
  cases hb : s.busy with
  | false => simp [hostWriteCmd, hb, h]
  | true =>
    rw [hostWriteCmd_of_busy w hb, everyCommandIsTurnedAwayWhileBusy i s hb, raise_commandWhileBusy]

/-- Settles O5: the step is the `CMD` write, and that is the instruction's meaning. -/
theorem stepRunsTheDecodedCommand : Obligations.StepRunsTheDecodedCommand := fun s _ _ hf hd =>
  ⟨(step_of_wr hf).trans (hostWriteCmd_of_decode s.popEvent hd), rfl⟩

theorem rejectIllegal_eq (s : State) :
    s.rejectIllegal = { s with errIllegal := true, everIllegal := true, done := true } := by
  simp [State.rejectIllegal, State.raise]

/-- The `OP` field of a command, read in the value the host wrote to `CMD` (R71, R147). -/
theorem extractLsb'_op_of_decode {v : DWord} {i : Instr} (h : decode (v.setWidth 32) = .ok i) :
    v.extractLsb' 0 3 = i.command.op := by
  have hop : (v.setWidth 32 : Word).extractLsb' 0 3 = i.command.op := by
    rw [← encode_of_decode h]
    exact congrArg Command.op (commandOfWord_wordOfCommand i.command)
  rwa [BitVec.extractLsb'_setWidth_of_le (by decide)] at hop

/-- The seed of pass 1, by `OP` (R141). -/
theorem firstSeed_eq_of_op (c : Config) (seed : Word) (i : Instr) :
    firstSeed c seed i =
      if i.command.op = 1 then seed
      else if i.command.op = 2 then c.k1
      else if i.command.op = 3 then c.k2
      else c.k3 := by
  cases i <;> rfl

/-- Settles O6: a busy machine, an illegal word, an absent buffer and a present one, in R141's order. -/
theorem cmdWriteFollowsAcceptanceRule : Obligations.CmdWriteFollowsAcceptanceRule := by
  intro s v hf
  refine ⟨true, true, false, ?_⟩
  rw [show step s = hostWriteCmd (v.setWidth 32) s.popEvent from step_of_wr hf]
  by_cases hp : s.phase = .idle
  · have hb : s.popEvent.busy = false := (not_busy_iff s).2 hp
    rw [if_neg (not_not_intro hp)]
    cases hl : legal (v.setWidth 32) with
    | false => rw [hostWriteCmd_of_illegal hl hb, rejectIllegal_eq, if_pos rfl]
    | true =>
      obtain ⟨i, hd⟩ := exists_decode_of_legal hl
      rw [if_neg (by decide), hostWriteCmd_of_decode _ hd, getLsbD_three_of_decode hd,
        extractLsb'_op_of_decode hd]
      cases hpres : presentOf i with
      | false => exact exec_of_absent hpres hb
      | true =>
        rw [if_neg (by decide), exec_of_present hpres hb, firstSeed_eq_of_op]
        rfl
  · rw [if_pos hp, hostWriteCmd_of_busy _ (s := s.popEvent) ((busy_iff s).2 hp), raise_commandWhileBusy]

/-- Settles O13: each of the three outcomes of `exec_cases` keeps what it does not name. -/
theorem commandFrame : Obligations.CommandFrame := by
  intro i s t h
  rcases exec_cases h with ⟨hb, rfl⟩ | ⟨hb, hp, op, seed, _, rfl⟩ | ⟨hb, hp, rfl⟩
  · simp [hb]
  · simp [hb, hp]
  · simp [hb, hp]

/-! ## The sequencer's turns (R142 to R145) -/

/-- Settles O14: the idle turn, and the only way to become busy. -/
theorem idleSequencerHasNoStep : Obligations.IdleSequencerHasNoStep := by
  intro s hp
  have hb := (not_busy_iff s).2 hp
  refine ⟨fun hf => (step_of_facing hf).trans (seqStep_of_idle (s := s.popEvent) hp), hb, fun t ht => ?_⟩
  cases hbt : t.busy with
  | false => exact .inl ((not_busy_iff t).1 hbt)
  | true =>
    obtain ⟨v, he, _⟩ := wr_cmd_of_becomes_busy ht hb hbt
    exact .inr ⟨v, he⟩

/-- An undisturbed ROUND step gets the byte memory holds (R143). -/
theorem nextByte_of_undisturbed {s : State} (h : s.disturbed = false) :
    s.nextByte = s.mem.read (s.lbase + s.idx) := by
  unfold State.nextByte State.readAddr byteAddr
  cases s.mem.read (s.lbase + s.idx) <;> simp [h]

/-- An undisturbed ROUND step draws no free byte (R68). -/
theorem roundWith_of_undisturbed {s : State} (b : Byte) (h : s.disturbed = false) :
    s.roundWith b =
      { s with
        h := mixRound s.h b s.l32, idx := s.idx + 1
        phase := if s.idx + 1 = s.llen then .final else s.phase
        memReads := s.readAddr :: s.memReads } := by
  simp [State.roundWith, h]

/-- Settles O15: `seqStep_of_nextByte` where the read is admitted, `seqStep_of_read_none` where it is not. -/
theorem roundStep : Obligations.RoundStep := by
  intro s hf hp hund
  refine ⟨fun b hb => ?_, fun hn => ?_, fun hlt => ?_⟩
  · have hbyte : s.popEvent.nextByte = some b := (nextByte_of_undisturbed (s := s.popEvent) hund).trans hb
    have hstep : step s = .next (s.popEvent.roundWith b) :=
      (step_of_facing hf).trans (seqStep_of_nextByte (s := s.popEvent) hp hbyte)
    refine ⟨s.readAddr :: s.memReads, ?_⟩
    rw [hstep, roundWith_of_undisturbed (s := s.popEvent) b hund, ← hp]
    rfl
  · exact (step_of_facing hf).trans (seqStep_of_read_none (s := s.popEvent) hp hn)
  · bv_omega

/-- Settles O17: the turn `seqStep_of_endPass1`, written out. -/
theorem endOfPassOneStep : Obligations.EndOfPassOneStep := fun s hf hp hlop hpass =>
  (step_of_facing hf).trans (seqStep_of_endPass1 (s := s.popEvent) hp hlop hpass)

/-- R145's case for each of the four operations. -/
theorem resultOf_of_assigned {op : BitVec 3} (hop : op = 1 ∨ op = 2 ∨ op = 3 ∨ op = 4) (r1 h : Word) :
    resultOf op r1 h = some (
      if op = 1 then h.setWidth 64
      else if op = 2 then (fold16 h).signExtend 64
      else if op = 3 then h.signExtend 64
      else (r1 ++ h : BitVec 64)) := by
  rcases hop with rfl | rfl | rfl | rfl <;> rfl

/-- Settles O18: the completing turn, with R145's case for RESULT. -/
theorem completionStep : Obligations.CompletionStep := fun s hf hp hn hop =>
  (step_of_facing hf).trans
    (seqStep_of_complete (s := s.popEvent) hp hn (resultOf_of_assigned hop s.r1 (fin s.h s.l32)))

/-! ## The host's register accesses (R146, R147) -/

/-- What a host reads from STATUS, bit by bit (R25). -/
theorem readReg_status_getLsbD (s : State) (n : Nat) :
    (s.readReg .status).getLsbD n = [s.busy, s.done, s.errIllegal, s.errBusy].getD n false := by
  rw [State.readReg, BitVec.getLsbD_setWidth, State.status, BitVec.getLsbD_append, BitVec.getLsbD_append,
    BitVec.getLsbD_append, BitVec.getLsbD_append]
  match n with
  | 0 | 1 | 2 | 3 => simp
  | n + 4 => simp

/-- Settles O24: `step_of_rd` for each register, STATUS bit by bit; the refused access by its own lemma. -/
theorem hostReadReturnsRegister : Obligations.HostReadReturnsRegister := by
  intro s
  have hbit := readReg_status_getLsbD s.popEvent
  exact ⟨step_of_rd,
    fun hf => ⟨_, step_of_rd hf, hbit 0, hbit 1, hbit 2, hbit 3,
      fun n hn => (hbit n).trans (List.getD_eq_default _ _ hn)⟩,
    step_of_rd, step_of_rd, step_of_rd, step_of_rd,
    fun _ _ hf hn => ⟨true, step_of_refused_access (v := 0) hn (.inl hf)⟩⟩

/-- Settles O25: `step_of_wr` for each register; the refused access by its own lemma. -/
theorem hostWriteEffects : Obligations.HostWriteEffects := by
  intro s v
  refine ⟨step_of_wr, fun hf => (step_of_wr hf).trans ?_, step_of_wr, step_of_wr, step_of_wr, step_of_wr,
    fun _ _ hf hn => ⟨true, step_of_refused_access hn (.inr hf)⟩⟩
  simp [writeReg, State.clearErrors]

end Sys2Proof.Machine

/-! The family of the exceptions (60_exceptions.md): when the two causes are raised and what that changes, and
what a step does to an error bit, to its ever-set record and to the record of refused accesses. -/

namespace Sys2Proof.Machine

/-! ## CommandWhileBusy and IllegalCommand (R161, R162) -/

/-- Settles O8: the step is the `CMD` write, which a busy machine turns away. -/
theorem commandWhileBusyEffect : Obligations.CommandWhileBusyEffect := fun s v hf hb =>
  ⟨true, by rw [step_of_wr hf, ← raise_commandWhileBusy]; exact hostWriteCmd_of_busy _ hb⟩

/-- MIX with `P` = 0 is the word 1, by its fields (R71). -/
theorem eq_one_iff_fields (w : Word) :
    w = 1 ↔ w.extractLsb' 4 28 = 0 ∧ w.getLsbD 3 = false ∧ w.extractLsb' 0 3 = 1 := by
  constructor
  · rintro rfl
    decide
  · rintro ⟨hrsv, hp, hop⟩
    have hfields : commandOfWord w = ⟨0, false, 1⟩ := by rw [commandOfWord, hrsv, hp, hop]
    rw [← wordOfCommand_commandOfWord w, hfields]
    rfl

/-- The illegal words: a reserved `OP`, a nonzero reserved bit, or MIX with `P` = 0 (R74, R76). -/
theorem legal_eq_false_iff (w : Word) : legal w = false ↔
    w.extractLsb' 0 3 = 0 ∨ w.extractLsb' 0 3 = 5 ∨ w.extractLsb' 0 3 = 6 ∨ w.extractLsb' 0 3 = 7 ∨
      w.extractLsb' 4 28 ≠ 0 ∨ w = 1 := by
  rw [← Bool.not_eq_true, legal_iff, eq_one_iff_fields]
  generalize w.extractLsb' 0 3 = op, w.getLsbD 3 = p
  by_cases hrsv : w.extractLsb' 4 28 = 0
  · simp only [hrsv, ne_eq, not_true, true_and, false_or]
    revert op p
    decide
  · exact iff_of_true (fun h => hrsv h.1) (.inr (.inr (.inr (.inr (.inl hrsv)))))

/-- Settles O7: which words are illegal by their fields, and the step as the `CMD` write that turns one away. -/
theorem illegalCommandEffect : Obligations.IllegalCommandEffect := by
  intro s v hf hb
  refine ⟨?_, fun hl => ⟨true, ?_⟩⟩
  · rw [legal_eq_false_iff, BitVec.extractLsb'_setWidth_of_le (by decide),
      BitVec.extractLsb'_setWidth_of_le (by decide)]
  · rw [step_of_wr hf, ← rejectIllegal_eq]
    exact hostWriteCmd_of_illegal hl hb

/-! ## The sequencer (R163) -/

theorem State.SameMisuse.refl (s : State) : s.SameMisuse s := ⟨rfl, rfl, rfl, rfl, rfl, rfl, rfl⟩

/-- Settles O20: under the invariant the turn answers a next state, `seqStep_sameMisuse` compares the error
bits and records, and `seqStep_of_read_none` is the turn whose read is not admitted. -/
theorem sequencerRaisesNothing : Obligations.SequencerRaisesNothing := by
  intro s hs hf
  obtain ⟨t, ht⟩ := hs.popEvent.seqStep_next
  have hsame := seqStep_sameMisuse (.refl s.popEvent) ht
  refine ⟨t, (step_of_facing hf).trans ht, hsame.errIllegal, hsame.errBusy, hsame.everIllegal,
    hsame.everBusy, fun hp hn => ?_⟩
  cases ht.symm.trans (seqStep_of_read_none (s := s.popEvent) hp hn)
  rfl

/-! ## A step and one cause's bit and record (R160, R168) -/

/-- The sticky bit of a cause in STATUS (R25). -/
def State.err (s : State) : Cause → Bool
  | .illegalCommand => s.errIllegal
  | .commandWhileBusy => s.errBusy

/-- The record that a cause's bit was ever set (R168). -/
def State.ever (s : State) : Cause → Bool
  | .illegalCommand => s.everIllegal
  | .commandWhileBusy => s.everBusy

/-- The place of a cause's bit in STATUS (R25). -/
def Cause.statusBit : Cause → Nat
  | .illegalCommand => 2
  | .commandWhileBusy => 3

theorem err_raise (s : State) (c d : Cause) : (s.raise c).err d = (s.err d || decide (c = d)) := by
  cases d <;> rfl

theorem ever_raise (s : State) (c d : Cause) : (s.raise c).ever d = (s.ever d || decide (c = d)) := by
  cases d <;> rfl

/-- A STATUS write is a write of 1 to clear, for each cause's bit (R147). -/
theorem err_clearErrors (s : State) (v : DWord) (c : Cause) :
    (s.clearErrors (v.setWidth 32)).err c = (s.err c && !v.getLsbD c.statusBit) := by
  cases c <;> simp [State.err, Cause.statusBit]

/-- What a step can do to a cause's bit and its record: leave them, set both, clear the bit by a STATUS write,
or clear the bit by reset. -/
inductive CauseEffect (s t : State) (c : Cause) : Prop
  | kept : t.err c = s.err c → t.ever c = s.ever c → CauseEffect s t c
  | raised : t.err c = true → t.ever c = true → CauseEffect s t c
  | statusWrite (v : DWord) : s.nextEvent = Event.wr s.cfg .status v →
      t.err c = (s.err c && !v.getLsbD c.statusBit) → t.ever c = s.ever c → CauseEffect s t c
  | reset : s.nextEvent = .reset → t.err c = false → t.ever c = s.ever c → CauseEffect s t c

/-- Raising a cause sets that cause's bit and record and leaves the other's (R160). -/
theorem CauseEffect.of_raise {s t : State} {c d : Cause} (herr : t.err c = (s.err c || decide (d = c)))
    (hever : t.ever c = (s.ever c || decide (d = c))) : CauseEffect s t c := by
  by_cases hd : d = c
  · exact .raised (by simp [herr, hd]) (by simp [hever, hd])
  · exact .kept (by simp [herr, hd]) (by simp [hever, hd])

/-- Every step has one of these effects on each cause: only a `CMD` write raises, only a STATUS write and
reset clear. -/
theorem step_causeEffect {s t : State} (h : step s = .next t) (c : Cause) : CauseEffect s t c := by
  cases step_effect h with
  | busyCommand | illegalCommand => exact .of_raise (err_raise s _ c) (ever_raise s _ c)
  | statusWrite v he => exact .statusWrite v he (err_clearErrors s v c) (by cases c <;> rfl)
  | reset he => exact .reset he (by cases c <;> rfl) (by cases c <;> rfl)
  | _ => exact .kept (by cases c <;> rfl) (by cases c <;> rfl)

/-! ## Sticky bits (R160) -/

theorem raise_illegalCommand (s : State) :
    s.raise .illegalCommand = { s with errIllegal := true, everIllegal := true } := by
  simp [State.raise]

/-- A set bit is still set after a step other than reset, or the host wrote 1 to it. -/
theorem step_keeps_err {s t : State} (h : step s = .next t) (hr : s.nextEvent ≠ .reset) {c : Cause}
    (hs : s.err c = true) : t.err c = true ∨
      ∃ v : DWord, s.nextEvent = Event.wr s.cfg .status v ∧ v.getLsbD c.statusBit = true := by
  cases step_causeEffect h c with
  | kept herr => exact .inl (herr.trans hs)
  | raised herr => exact .inl herr
  | reset he => exact absurd he hr
  | statusWrite v he herr =>
    cases hv : v.getLsbD c.statusBit with
    | false => exact .inl (by simp [herr, hs, hv])
    | true => exact .inr ⟨v, he, hv⟩

/-- A host write of 1 to a cause's bit in STATUS clears it (R147). -/
theorem step_clears_err {s t : State} (h : step s = .next t) {v : DWord}
    (he : s.nextEvent = Event.wr s.cfg .status v) {c : Cause} (hv : v.getLsbD c.statusBit = true) :
    t.err c = false := by
  have hmark : s.refusedMark = false := (step_next h).1.resolve_right (by simp [he, Event.wr])
  cases h.symm.trans (step_of_wr ⟨hmark, he⟩)
  simp [err_clearErrors, hv]

/-- Settles O27: raising by its equations, reset by its own lemma, and both bits as cases of
`step_keeps_err` and `step_clears_err`. -/
theorem errorBitsAreSticky : Obligations.ErrorBitsAreSticky :=
  ⟨fun s => ⟨⟨true, raise_illegalCommand s⟩, true, raise_commandWhileBusy s⟩,
    fun _ he => ⟨_, step_of_reset he, rfl, rfl⟩,
    fun _ _ h hr => ⟨step_keeps_err h hr (c := .illegalCommand),
      step_keeps_err h hr (c := .commandWhileBusy),
      fun _ he => ⟨step_clears_err h he (c := .illegalCommand),
        step_clears_err h he (c := .commandWhileBusy)⟩⟩⟩

/-! ## Records of misuse (R168, R191) -/

/-- No step clears an ever-set record, reset neither. -/
theorem step_keeps_ever {s t : State} (h : step s = .next t) {c : Cause} (hs : s.ever c = true) :
    t.ever c = true := by
  cases step_causeEffect h c with
  | kept _ hever | statusWrite _ _ _ hever | reset _ _ hever => exact hever.trans hs
  | raised _ hever => exact hever

/-- A step that newly sets a cause's bit sets its record. -/
theorem step_records_err {s t : State} (h : step s = .next t) {c : Cause} (hs : s.err c = false)
    (ht : t.err c = true) : t.ever c = true := by
  cases step_causeEffect h c with
  | raised _ hever => exact hever
  | kept herr | statusWrite _ _ herr | reset _ herr => simp [herr, hs] at ht

/-- A step sets the record of refused accesses, or it keeps it and sets no refused mark (R30, R191). -/
theorem step_everRefused {s t : State} (h : step s = .next t) : t.everRefused = true ∨
    (t.everRefused = s.everRefused ∧ (t.refusedMark = true → s.refusedMark = true)) := by
  cases step_effect h with
  | refusedRead | refusedWrite => exact .inl rfl
  | reset => exact .inr ⟨rfl, fun hm => nomatch hm⟩
  | _ => exact .inr ⟨rfl, id⟩

/-- Settles O28: each cause's record by `step_keeps_ever` and `step_records_err`, the record of refused
accesses by `step_everRefused`. -/
theorem misuseIsNeverForgotten : Obligations.MisuseIsNeverForgotten := by
  intro s t h
  refine ⟨step_keeps_ever h (c := .illegalCommand), step_keeps_ever h (c := .commandWhileBusy),
    step_records_err h (c := .illegalCommand), step_records_err h (c := .commandWhileBusy), ?_⟩
  obtain hset | ⟨hever, hmark⟩ := step_everRefused h
  · exact ⟨fun _ => hset, fun _ _ => hset⟩
  · exact ⟨hever.trans, fun hs ht => nomatch hs.symm.trans (hmark ht)⟩

end Sys2Proof.Machine

/-! The family of reset and the end of a run (70_reset_and_hazards.md): what reset sets and what holds after
it, and the refused access that a run, a reset included, never leaves behind. -/

namespace Sys2Proof.Machine

/-! ## Reset (R180) -/

/-- The reset state meets the invariant on any canonical memory: idle, nothing latched, nothing raised. -/
theorem inv_resetFor (c : Config) {m : Memory} (hm : m.wf = true) : (State.resetFor c m).Inv where
  memWf := hm
  notBusyAndDone _ := rfl
  roundIdx hp := nomatch hp
  finalIdx hp := nomatch hp
  lopAssigned := .inl rfl
  runningOp hp := absurd rfl hp
  secondPass hp := nomatch hp
  beforeFirst _ _ := ⟨rfl, rfl, rfl⟩
  everIllegal he := nomatch he
  everBusy he := nomatch he
  everRefused he := nomatch he

/-- Settles O46: `State.reset` is the reset state on the empty memory, which is canonical. -/
theorem invariantAtReset : Obligations.InvariantAtReset :=
  ⟨fun c _ hm => inv_resetFor c hm, inv_resetFor Config.default (by decide)⟩

/-- Settles O48: a reset step is `State.assertReset`, which keeps the model's own records and clears its
marks. -/
theorem resetLeavesResetValues : Obligations.ResetLeavesResetValues := fun s he =>
  ⟨false, s.everRefused, s.everIllegal, s.everBusy, false, s.draws, s.hostReads, s.memReads,
    step_of_reset he⟩

/-! ## The end of a run (R191) -/

/-- A run in which an access was ever refused has not ended. -/
theorem not_runEnded_of_everRefused {s : State} (h : s.everRefused = true) : ¬ s.runEnded := by
  rintro ⟨_, _, _, hnever⟩
  exact nomatch h.symm.trans hnever

/-- No step takes a refused access back, reset neither. -/
theorem step_keeps_everRefused {s t : State} (hs : s.everRefused = true) (h : step s = .next t) :
    t.everRefused = true := by
  obtain hset | ⟨hkept, -⟩ := step_everRefused h
  · exact hset
  · exact hkept.trans hs

/-- Settles O55: the refused access is recorded (`step_of_refused_access`), every run keeps the record
(`runSteps_keeps`), and a state with the record has not ended. -/
theorem refusedRunNeverEnds : Obligations.RefusedRunNeverEnds := by
  intro s t u addr width k v hn hf h
  cases h.symm.trans (step_of_refused_access hn hf)
  have hrec : s.popEvent.markRefused.everRefused = true := rfl
  refine ⟨not_runEnded_of_everRefused hrec, fun hu => ?_⟩
  have hended := not_runEnded_of_everRefused
    (runSteps_keeps (P := (·.everRefused = true)) (fun _ _ => step_keeps_everRefused) hrec hu)
  exact ⟨hended, fun ⟨hrun, _⟩ => hended hrun⟩

end Sys2Proof.Machine

/-! The model's own choices, where the rules leave a case open (the assumption log, entries 3, 5, 7, 8 and
13): the byte read after the host broke its duty, a `LOP` without an operation, the refused machine, and the
host's write to memory. -/

namespace Sys2Proof.Machine

/-! ## The disturbed buffer (R68, I10) -/

/-- After the host broke its duty, an admitted read gives the next free byte. -/
theorem nextByte_of_disturbed {s : State} {b : Byte} (hd : s.disturbed = true)
    (hb : s.mem.read (s.lbase + s.idx) = some b) : s.nextByte = some (Config.disturbedByte s.draws) := by
  simp [State.nextByte, State.readAddr, byteAddr, hb, hd]

/-- After the host broke its duty, a round counts the draw of its byte. -/
theorem roundWith_of_disturbed {s : State} (b : Byte) (hd : s.disturbed = true) :
    s.roundWith b =
      { s with
        h := mixRound s.h b s.l32, idx := s.idx + 1
        phase := if s.idx + 1 = s.llen then .final else s.phase
        draws := s.draws + 1, memReads := s.readAddr :: s.memReads } := by
  simp [State.roundWith, hd]

/-- Settles O16: the turn is the round on the byte of `nextByte_of_disturbed`. -/
theorem disturbedRoundStepUsesFreeByte : Obligations.DisturbedRoundStepUsesFreeByte := by
  intro s b hf hp hd hb
  have hbyte : s.popEvent.nextByte = some (Config.disturbedByte s.draws) :=
    nextByte_of_disturbed (s := s.popEvent) hd hb
  have hstep : step s = .next (s.popEvent.roundWith (Config.disturbedByte s.draws)) :=
    (step_of_facing hf).trans (seqStep_of_nextByte (s := s.popEvent) hp hbyte)
  rw [hstep, roundWith_of_disturbed (s := s.popEvent) _ hd, ← hp]
  rfl

/-! ## The operations without a result (R145) -/

/-- R145's case names no RESULT for the four other values of `LOP`. -/
theorem resultOf_of_unassigned {op : BitVec 3} (hop : op = 0 ∨ op = 5 ∨ op = 6 ∨ op = 7) (r1 h : Word) :
    resultOf op r1 h = none := by
  rcases hop with rfl | rfl | rfl | rfl <;> rfl

/-- A completing FINAL step without a RESULT is a fault. -/
theorem seqStep_of_no_result {s : State} (hp : s.phase = .final) (hn : ¬(s.lop = 4 ∧ s.pass = .first))
    (hr : resultOf s.lop s.r1 (fin s.h s.l32) = none) : seqStep s = .fault .reservedLop := by
  simp only [seqStep, hp, seqFinal, if_neg hn, seqFinalComplete, hr]

/-- Settles O19: such a `LOP` is not CHECKSUM64's, so the turn is the completing one, and it has no RESULT. -/
theorem unassignedOperationFaults : Obligations.UnassignedOperationFaults := by
  intro s hf hp hop
  have hne : s.lop ≠ 4 := by rcases hop with h | h | h | h <;> rw [h] <;> decide
  exact (step_of_facing hf).trans
    (seqStep_of_no_result (s := s.popEvent) hp (fun hend => hne hend.1) (resultOf_of_unassigned hop _ _))

/-! ## The refused machine (R30) -/

/-- Where the refused mark is set, every event but reset is refused. -/
theorem step_of_refusedMark {s : State} (hm : s.refusedMark = true) (he : s.nextEvent ≠ .reset) :
    step s = .refused .afterRefusedAccess :=
  if_pos ⟨hm, he⟩

/-- Settles O23: reset by `step_of_reset`, every other event by `step_of_refusedMark`. -/
theorem refusedStateHasOnlyReset : Obligations.RefusedStateHasOnlyReset := fun _ hm =>
  ⟨step_of_refusedMark hm, fun he => ⟨_, step_of_reset he, rfl, rfl⟩⟩

/-! ## The host's write to memory (R140) -/

/-- What each address reads as after a write. -/
theorem Memory.read_write (m : Memory) (a x : DWord) (b : Byte) :
    (m.write a b).read x = if x = a then (m.read a).map fun _ => b else m.read x := by
  split
  · next h => rw [h, Memory.read_write_same]
  · next h => exact Memory.read_write_other m a x b h

/-- Settles O26: the step is `State.hostMemWrite`, whose memory reads by `Memory.read_write`. -/
theorem hostMemoryWriteFrame : Obligations.HostMemoryWriteFrame := fun s a b hf =>
  ⟨s.popEvent.hostMemWrite a b, step_of_facing hf, fun x => Memory.read_write s.mem a x b, rfl, rfl⟩

end Sys2Proof.Machine
